-- ==== Sys2Proof/Word.lean ====
section
/-! DEFINITION. The word types of the engine (R10, R12 of 00_scope.md): what the spec treats as bits. -/

namespace Sys2Proof

/-- One byte of a command, of a packet or of the backend name. -/
abbrev Byte := BitVec 8

/-- A 16-bit pixel word of RASTER (R52). -/
abbrev Pixel := BitVec 16

/-- A signed 16-bit entry of DBUF, held as its two's-complement bits (R54). -/
abbrev Entry := BitVec 16

/-- A 32-bit geometry register (R28). -/
abbrev Word32 := BitVec 32

end Sys2Proof
end

