-- ==== Sys2Proof/Config.lean ====
section
/-! DEFINITION. What is fixed for one engine (00_scope.md R7) and what the spec leaves to the
environment (R6). Every opaque constant here has no body: nothing can be proved of its value, so a
theorem holds for every value (entries 1, 3, 4, 5, 12 and 13 of the assumption log). -/

namespace Sys2Proof

/-- The parameters of R7 that the engine reads after reset. IN_CAP ≥ 6 is R8. -/
structure Params where
  /-- DEVICE_ID, passed to the provider. -/
  deviceId : Int
  /-- REQ_W, passed to the provider. -/
  reqW : Int
  /-- REQ_H, passed to the provider. -/
  reqH : Int
  /-- IN_CAP, the capacity of IBUF in bytes. -/
  inCap : Nat
  deriving DecidableEq, Repr, Inhabited

/-- The record a provider answers `initialize` with (R221, R254). DISPLAY_* may be signed (R203). -/
structure ProviderRecord where
  backendName : Vector Byte 16
  displayId : Int
  displayW : Int
  displayH : Int
  captureW : Nat
  captureH : Nat
  captureS : Nat
  deriving DecidableEq, Repr, Inhabited

/-- The provider's answer to `initialize` (R221). -/
inductive InitAnswer where
  | error
  | ready (r : ProviderRecord)
  deriving DecidableEq, Repr, Inhabited

/-- The events of R222. -/
inductive HostEvent where
  /-- `Chunk(c)`: the bytes of one read. -/
  | chunk (c : List Byte)
  /-- `EOF`: a zero-length read. -/
  | eof
  /-- `ReadError`. -/
  | readError
  deriving DecidableEq, Repr, Inhabited

/-- What becomes of one packet write (R201, R241). -/
inductive WriteOutcome where
  /-- The whole packet is accepted. -/
  | accepted
  /-- The write fails; the transport had taken n bytes of the packet, or, where n is not less than
  the packet's length, all but one (a proper prefix, R241). -/
  | failed (n : Nat)
  deriving DecidableEq, Repr, Inhabited

/-- RESET_T, the OPEN parameter the reset thresholds are derived from (R7, R272, D13). -/
opaque Config.resetT : Byte

/-- IN_CAP less its floor of 6 (R7, R8, D12): an OPEN parameter. -/
opaque Config.inCapAboveFloor : Nat

/-- DEVICE_ID (R7). -/
opaque Config.deviceId : Int

/-- REQ_W (R7). -/
opaque Config.reqW : Int

/-- REQ_H (R7). -/
opaque Config.reqH : Int

/-- The parameters of the engine that `State.reset` starts. -/
def Config.params : Params where
  deviceId := Config.deviceId
  reqW := Config.reqW
  reqH := Config.reqH
  inCap := Config.inCapAboveFloor + 6

/-- The provider's free answer to `initialize` at a draw (U9, U10). -/
opaque Config.initAnswer : Nat → InitAnswer

/-- The free word that element i of RASTER holds from INIT until the first capture (U17, R30, entry 3). -/
opaque Config.uncapturedWord : Nat → Nat → Pixel

/-- The free value that entry i of DBUF holds from INIT until the dithering engine first runs (U17, R31,
entry 3). -/
opaque Config.undecidedEntry : Nat → Nat → Entry

/-- The host's free event at a draw; `none` while nothing has arrived (U12, U13, U19). -/
opaque Config.hostEvent : Nat → Option HostEvent

/-- The free word a capture at a draw gives element i of RASTER (U11). -/
opaque Config.capturedWord : Nat → Nat → Pixel

/-- The free outcome of a packet write at a draw (U14). -/
opaque Config.writeOutcome : Nat → WriteOutcome

/-- Whether the provider is finalized on the fatal path taken at a draw (U16, D17). -/
opaque Config.finalizeOnFatal : Nat → Bool

/-- The exit value of a failed run, less 1, so that it is any nonzero value (U15, D16, R242). -/
opaque Config.failureExitBelow : Nat → Nat

end Sys2Proof
end

