-- ==== Sys2Proof/Machine/Pixel.lean ====
section
/-! DEFINITION. The lanes of a pixel word, the threshold values, the comparator, channel expansion and
intensity (R12, R21 to R25, R142, R171, R172, R180), and the byte orders of R11. -/

namespace Sys2Proof.Machine

/-! ## Lanes (R12) -/

/-- FH(p) = p[15:11] (R12). -/
def fieldHigh (p : Pixel) : BitVec 5 := p.extractLsb' 11 5

/-- FM(p) = p[10:5] (R12). -/
def fieldMiddle (p : Pixel) : BitVec 6 := p.extractLsb' 5 6

/-- FL(p) = p[4:0] (R12). -/
def fieldLow (p : Pixel) : BitVec 5 := p.extractLsb' 0 5

/-! ## Threshold values (R21 to R23, R85) -/

/-- THR_R for the threshold value t: zext_16(t >> 3) (R21). -/
def thresholdR (t : Byte) : BitVec 16 := (t >>> 3).setWidth 16

/-- THR_G for the threshold value t: (t >> 2) << 5 (R22). -/
def thresholdG (t : Byte) : BitVec 16 := (t >>> 2).setWidth 16 <<< 5

/-- THR_B for the threshold value t: (t >> 3) << 11 (R23). -/
def thresholdB (t : Byte) : BitVec 16 := (t >>> 3).setWidth 16 <<< 11

/-! ## Comparator (R171) -/

/-- On_T(p): a lane of p, masked in place, exceeds its threshold register (R171, unsigned and strict). -/
def comparatorOn (thrR thrG thrB : BitVec 16) (p : Pixel) : Bool :=
  decide ((p &&& 0x001F) > thrR) || decide ((p &&& 0x07E0) > thrG) || decide ((p &&& 0xF800) > thrB)

/-! ## Expansion (R172) -/

/-- E8H(p) = FH(p) << 3 (R172). -/
def expandHigh (p : Pixel) : Byte := (fieldHigh p).setWidth 8 <<< 3

/-- E8M(p) = FM(p) << 2 (R172). -/
def expandMiddle (p : Pixel) : Byte := (fieldMiddle p).setWidth 8 <<< 2

/-- E8L(p) = FL(p) << 3 (R172). -/
def expandLow (p : Pixel) : Byte := (fieldLow p).setWidth 8 <<< 3

/-! ## Intensity (R141, R142) -/

/-- v(p) = max(2·FL(p), FM(p), 2·FH(p)) (R142). -/
def intensity (p : Pixel) : Nat :=
  max (max (2 * (fieldLow p).toNat) (fieldMiddle p).toNat) (2 * (fieldHigh p).toNat)

/-- T6 = THR_G >> 5 (R141). -/
def threshold6 (thrG : BitVec 16) : Nat := (thrG >>> 5).toNat

/-! ## Byte orders (R11) -/

/-- BE32(n), for n < 2^32: the most significant byte first (R11, R58). -/
def be32 (n : Nat) : List Byte :=
  let v := BitVec.ofNat 32 n
  [v.extractLsb' 24 8, v.extractLsb' 16 8, v.extractLsb' 8 8, v.extractLsb' 0 8]

/-- LE16(v) (R11, R53). -/
def le16 (v : Pixel) : List Byte := [v.extractLsb' 0 8, v.extractLsb' 8 8]

/-- LE32(n) (R11, R59). -/
def le32 (v : Word32) : List Byte :=
  [v.extractLsb' 0 8, v.extractLsb' 8 8, v.extractLsb' 16 8, v.extractLsb' 24 8]

/-- asr4(n) = floor(n / 16): division by the positive 16 rounds down for negative n too (R10). -/
def asr4 (n : Int) : Int := n / 16

end Sys2Proof.Machine
end

