-- ==== Sys2Proof/Machine/State.lean ====
section
/-! DEFINITION. The whole state of the engine (R20 of 10_state.md) as plain data, its reset (R40), and
the reasons a step can stop. The last three fields of `State` are the MODEL's own (entries 4, 5, 15). -/

namespace Sys2Proof.Machine

/-- The five fatal conditions of R240. -/
inductive FatalCode where
  /-- 1: the provider cannot be initialized. -/
  | fInit
  /-- 2: a command's header is not 00 00 00. -/
  | fHdr
  /-- 3: 4 + LEN exceeds IN_CAP. -/
  | fOvf
  /-- 4: a read error on the input transport. -/
  | fRd
  /-- 5: a write error or a short write. -/
  | fWr
  deriving DecidableEq, Repr

/-- FSM (R32). -/
inductive Fsm where
  | init
  | await
  | drain
  | emit
  | shutdown
  | failed
  deriving DecidableEq, Repr

/-- STATUS (R33). -/
inductive Status where
  | running
  | exitOk
  | exitFail (code : FatalCode)
  deriving DecidableEq, Repr

/-- The calls the engine makes on the capture provider (R254). -/
inductive ProviderCall where
  | initializeProvider (deviceId requestedWidth requestedHeight : Int)
  | captureFrame
  | finalize
  deriving DecidableEq, Repr

/-- The geometry registers (R28). -/
structure Geometry where
  capW : Word32
  capH : Word32
  capS : Word32
  displayId : Word32
  displayW : Word32
  displayH : Word32
  backendName : Vector Byte 16
  deriving DecidableEq, Repr

/-- The MODEL's own record of what the environment will choose (R6): each list is a plan, its head
the next choice; once a plan is used up the choice is a free constant of Config at the counter
`draws`, which counts every choice made (entries 5, 6). -/
structure Environment where
  /-- Answers to `initialize` (R221). -/
  initAnswers : List InitAnswer
  /-- Events of the host transport (R222); `none` where nothing has arrived yet (R257). -/
  events : List (Option HostEvent)
  /-- Frames of the capture provider, row by row with their padding (R226). -/
  frames : List (List Pixel)
  /-- Outcomes of packet writes (R201). -/
  writes : List WriteOutcome
  /-- How many choices have been made. -/
  draws : Nat
  deriving DecidableEq, Repr

/-- The state of the engine (R20). -/
structure State where
  /-- THR_R (R21). -/
  thrR : BitVec 16
  /-- THR_G (R22). -/
  thrG : BitVec 16
  /-- THR_B (R23). -/
  thrB : BitVec 16
  /-- DITHER_MODE (R26). -/
  ditherMode : BitVec 8
  /-- PENDING_FMT (R27). -/
  pendingFmt : BitVec 3
  /-- CAP_W, CAP_H, CAP_S, DISPLAY_ID, DISPLAY_W, DISPLAY_H, BACKEND_NAME (R28). -/
  geometry : Geometry
  /-- IBUF[0 .. IBUF_LEN − 1]; IBUF_LEN is its length (R29). -/
  ibuf : List Byte
  /-- RASTER, S·H words; free values from INIT until the first capture (R30, R66, entry 3). -/
  raster : List Pixel
  /-- DBUF, W·H entries; free values from INIT until the dithering engine first runs (R31, R66, entry 3). -/
  dbuf : List Entry
  /-- FSM (R32). -/
  fsm : Fsm
  /-- STATUS (R33). -/
  status : Status
  /-- OUT: the bytes the host transport has accepted (R34). -/
  out : List Byte
  /-- The parameters of R7 (the model's own field, entry 4). -/
  params : Params
  /-- The provider calls made, oldest first (R254; the model's own field, entry 15). -/
  calls : List ProviderCall
  /-- What the environment will choose (the model's own field, entry 5). -/
  env : Environment
  deriving DecidableEq, Repr

/-- The arrays of 20_memory.md, for the fault that names one. -/
inductive ArrayName where
  | raster
  | dbuf
  deriving DecidableEq, Repr

/-- Why a step stops with a fault. -/
inductive Fault where
  /-- Raised by `step` in SHUTDOWN and in FAILED: the engine makes no further step (R220, U20). Safe. -/
  | halted
  /-- Raised by an access to an element an array does not have (R66). Safe: no reachable state meets it. -/
  | indexOutOfRange (array : ArrayName) (index : Nat)
  /-- Raised by EMIT when PENDING_FMT is not in 1..5 (R228). Safe: no reachable state meets it. -/
  | noFormatPending
  /-- Raised by EMIT when BE32 of the payload length is not defined (R202). Safe: no reachable state meets it. -/
  | payloadTooLong
  deriving DecidableEq, Repr

/-- Why a step is given no meaning. -/
inductive Refusal where
  /-- Raised by an arm of `exec` whose instruction has no meaning yet; no arm does. Safe. -/
  | notModelled (mnemonic : String)
  /-- Raised by EMIT for a mono snapshot whose W or H is not a multiple of 8 (R181, U1, D21). Safe. -/
  | monoGeometry
  /-- Raised by INIT for a provider answer outside R8: no answer the provider may give (R221). Safe. -/
  | answerOutsideContract
  /-- Raised by AWAIT for a chunk that is empty or longer than the free space of IBUF: no event of
  R222. Safe. -/
  | chunkOutsideBounds
  deriving DecidableEq, Repr

/-- The geometry registers at reset: unspecified until INIT completes and never read before; the
model's value is 0 (R40, entry 2, DESIGN CHOICE). -/
def Geometry.reset : Geometry where
  capW := 0
  capH := 0
  capS := 0
  displayId := 0
  displayW := 0
  displayH := 0
  backendName := Vector.replicate 16 0

/-- An environment with no plan: every choice is free (entry 5). -/
def Environment.unplanned : Environment where
  initAnswers := []
  events := []
  frames := []
  writes := []
  draws := 0

/-- Reset with the parameters RESET_T and `params`, in an environment (R40, R270). With the geometry of
`Geometry.reset`, S·H and W·H are 0, so RASTER and DBUF have no element (entries 2, 3). -/
def State.resetWith (resetT : Byte) (params : Params) (env : Environment) : State where
  thrR := thresholdR resetT
  thrG := thresholdG resetT
  thrB := thresholdB resetT
  ditherMode := 0
  pendingFmt := 0
  geometry := Geometry.reset
  ibuf := []
  raster := []
  dbuf := []
  fsm := .init
  status := .running
  out := []
  params := params
  calls := []
  env := env

/-- The machine right after reset (R40), with the OPEN parameters opaque (entries 1, 4) and every
choice of the environment free (entry 5). -/
def State.reset : State := State.resetWith Config.resetT Config.params Environment.unplanned

end Sys2Proof.Machine
end

