-- ==== Sys2Proof/Machine/Ops.lean ====
section
/-! DEFINITION. The named operations over the arrays, the registers and the environment, and the one
operation that raises a fatal condition (R241). There is no return from one (R249). -/

namespace Sys2Proof.Machine

/-! ## Geometry (R7, R28) -/

/-- W. -/
def State.width (s : State) : Nat := s.geometry.capW.toNat

/-- H. -/
def State.height (s : State) : Nat := s.geometry.capH.toNat

/-- S. -/
def State.stride (s : State) : Nat := s.geometry.capS.toNat

/-! ## Element access (R61, R62, R66): an index outside the array faults -/

/-- Read element i of an array. -/
def readElement {α : Type} (name : ArrayName) (array : List α) (i : Nat) : Except Fault α :=
  match array[i]? with
  | some a => .ok a
  | none => .error (.indexOutOfRange name i)

/-- Write element i of an array. -/
def writeElement {α : Type} (name : ArrayName) (array : List α) (i : Nat) (a : α) : Except Fault (List α) :=
  if i < array.length then .ok (array.set i a) else .error (.indexOutOfRange name i)

/-- The results of a list of accesses, in order, or the first fault. -/
def collect {α : Type} : List (Except Fault α) → Except Fault (List α)
  | [] => .ok []
  | .error f :: _ => .error f
  | .ok a :: rest =>
    match collect rest with
    | .error f => .error f
    | .ok as => .ok (a :: as)

/-- RASTER[y·S + x], the pixel word at (x, y) (R50). -/
def State.readPixel (s : State) (x y : Nat) : Except Fault Pixel :=
  readElement .raster s.raster (y * s.stride + x)

/-- The positions (x, y) of the logical pixels in row-major order (R174). -/
def rowMajor (w h : Nat) : List (Nat × Nat) :=
  (List.range h).flatMap fun y => (List.range w).map fun x => (x, y)

/-- The logical pixels in row-major order, padding skipped (R50, R51, R174). -/
def State.logicalPixels (s : State) : Except Fault (List Pixel) :=
  collect ((rowMajor s.width s.height).map fun pos => s.readPixel pos.1 pos.2)

/-- DBUF[y·W + x], the decision entry at (x, y) (R54). -/
def State.readDecision (s : State) (x y : Nat) : Except Fault Entry :=
  readElement .dbuf s.dbuf (y * s.width + x)

/-! ## IBUF (R29, R55) -/

/-- IBUF_LEN (R29). -/
def State.ibufLen (s : State) : Nat := s.ibuf.length

/-- Append a chunk to IBUF (R55, R223). -/
def appendChunk (c : List Byte) (s : State) : State := { s with ibuf := s.ibuf ++ c }

/-- Consume(n): remove the first n bytes of IBUF and keep the rest in order (R55, R111). -/
def consume (n : Nat) (s : State) : State := { s with ibuf := s.ibuf.drop n }

/-- Discard what is left in IBUF (R230). -/
def discardInput (s : State) : State := { s with ibuf := [] }

/-! ## The form of the arrays -/

/-- The canonical form of the engine's storage (R29, R30, R31, R66, entry 10): IBUF within IN_CAP, S·H
words in RASTER, W·H entries in DBUF. -/
abbrev Memory.wf (s : State) : Prop :=
  s.ibufLen ≤ s.params.inCap ∧
    s.raster.length = s.stride * s.height ∧
    s.dbuf.length = s.width * s.height

/-! ## Registers -/

/-- Write the three threshold registers, together, from one threshold value (R24, R118). -/
def writeThresholds (t : Byte) (s : State) : State :=
  { s with thrR := thresholdR t, thrG := thresholdG t, thrB := thresholdB t }

/-- DITHER_MODE <- m (R119). -/
def writeDitherMode (m : Byte) (s : State) : State := { s with ditherMode := m }

/-- PENDING_FMT <- f (R27). -/
def writePendingFmt (f : BitVec 3) (s : State) : State := { s with pendingFmt := f }

/-- FSM <- f (R32). -/
def setFsm (f : Fsm) (s : State) : State := { s with fsm := f }

/-- Write the geometry registers (R28). -/
def writeGeometry (g : Geometry) (s : State) : State := { s with geometry := g }

/-- Replace the whole of RASTER (R30, R63). -/
def writeRaster (r : List Pixel) (s : State) : State := { s with raster := r }

/-- Replace the contents of DBUF (R31). -/
def writeDbuf (d : List Entry) (s : State) : State := { s with dbuf := d }

/-- The transport takes bytes: OUT <- OUT ++ bytes (R34). -/
def appendOut (bytes : List Byte) (s : State) : State := { s with out := s.out ++ bytes }

/-- A call on the capture provider (R254). -/
def recordCall (c : ProviderCall) (s : State) : State := { s with calls := s.calls ++ [c] }

/-- RASTER and DBUF take the sizes the geometry gives them, S·H words and W·H entries (R30, R31, R66). No
rule has written their contents yet: they are unspecified (R40, U17) and so free (entry 3). -/
def sizeArrays (s : State) : State :=
  writeDbuf ((List.range (s.width * s.height)).map (Config.undecidedEntry s.env.draws))
    (writeRaster ((List.range (s.stride * s.height)).map (Config.uncapturedWord s.env.draws)) s)

/-- The geometry is latched, once, and fixes the sizes of the arrays (R9, R28, R66). -/
def latchGeometry (g : Geometry) (s : State) : State := sizeArrays (writeGeometry g s)

/-- The end of a run, STATUS <- EXIT_OK in SHUTDOWN (R230, R33). -/
def shutDown (s : State) : State := { s with fsm := .shutdown, status := .exitOk }

/-! ## The environment's choices (R6): the plan's next one, or a free one -/

/-- The provider's answer to `initialize` (R221). -/
def State.initAnswer (s : State) : InitAnswer :=
  match s.env.initAnswers with
  | a :: _ => a
  | [] => Config.initAnswer s.env.draws

/-- The event of the host transport, `none` while nothing arrives (R222). -/
def State.hostEvent (s : State) : Option HostEvent :=
  match s.env.events with
  | e :: _ => e
  | [] => Config.hostEvent s.env.draws

/-- The word a capture gives element i of RASTER (R226). -/
def State.capturedWord (s : State) (i : Nat) : Pixel :=
  match s.env.frames with
  | frame :: _ => frame[i]?.getD (Config.capturedWord s.env.draws i)
  | [] => Config.capturedWord s.env.draws i

/-- The outcome of a packet write (R201). -/
def State.writeOutcome (s : State) : WriteOutcome :=
  match s.env.writes with
  | o :: _ => o
  | [] => Config.writeOutcome s.env.draws

/-- The answer to `initialize` has been given. -/
def takeInitAnswer (s : State) : State :=
  { s with env := { s.env with initAnswers := s.env.initAnswers.tail, draws := s.env.draws + 1 } }

/-- The event has been taken, or the wait goes on. -/
def takeHostEvent (s : State) : State :=
  { s with env := { s.env with events := s.env.events.tail, draws := s.env.draws + 1 } }

/-- The frame has been captured. -/
def takeFrame (s : State) : State :=
  { s with env := { s.env with frames := s.env.frames.tail, draws := s.env.draws + 1 } }

/-- The outcome of a write has been given. -/
def takeWriteOutcome (s : State) : State :=
  { s with env := { s.env with writes := s.env.writes.tail, draws := s.env.draws + 1 } }

/-! ## Fatal conditions (R241) -/

/-- finalize() on a fatal path: called or not, the spec leaves it open (R241, D17, entry 12). -/
def finalizeOnFatal (s : State) : State :=
  { s with
    calls := s.calls ++ (if Config.finalizeOnFatal s.env.draws then [.finalize] else [])
    env := { s.env with draws := s.env.draws + 1 } }

/-- `raise Fatal(code)`: FSM <- FAILED, STATUS <- EXIT_FAIL(code), nothing more is executed (R241). -/
def raiseFatal (code : FatalCode) (s : State) : State :=
  finalizeOnFatal { s with fsm := .failed, status := .exitFail code }

/-- The process exit status that STATUS maps to; none while the engine runs (R242). -/
def State.exitStatus (s : State) : Option Nat :=
  match s.status with
  | .running => none
  | .exitOk => some 0
  | .exitFail _ => some (Config.failureExitBelow s.env.draws + 1)

/-! ## Output (R201) and capture (R226) -/

/-- `Emit(packet)`, then `after` where the write succeeds. A failed write leaves a proper prefix of
the packet in OUT and raises F_WR (R201, R241, entry 14). -/
def emitPacket (packet : List Byte) (after : State → State) (s : State) : State :=
  match s.writeOutcome with
  | .accepted => after (appendOut packet (takeWriteOutcome s))
  | .failed n => raiseFatal .fWr (appendOut (packet.take (min n (packet.length - 1))) (takeWriteOutcome s))

/-- `Capture()`: the provider writes all S·H words of RASTER (R226). -/
def capture (s : State) : State :=
  takeFrame (recordCall .captureFrame
    (writeRaster ((List.range (s.stride * s.height)).map s.capturedWord) s))

end Sys2Proof.Machine
end

