-- ==== Sys2Proof/Machine/Contract.lean ====
section
/-! DEFINITION. What the spec asks of the environment: the constraints of R8 on the provider's answer
and the bounds of R222 on a chunk. -/

namespace Sys2Proof.Machine

/-- W, H and S meet R8: S ≥ W and every payload length fits the header. -/
def legalGeometry (w h s : Nat) : Bool := decide (w ≤ s) && decide (4 + 3 * w * h ≤ 2 ^ 32 - 1)

/-- An integer that 32 bits encode, signed or unsigned (R8, R203, D20, entry 18). -/
def fits32 (n : Int) : Bool := decide (-(2 ^ 31) ≤ n) && decide (n < 2 ^ 32)

/-- A provider record that meets R8; S fits its 32-bit register too (R28, entry 18). -/
def legalRecord (r : ProviderRecord) : Bool :=
  legalGeometry r.captureW r.captureH r.captureS && fits32 r.displayId && fits32 r.displayW && fits32 r.displayH
    && decide (r.captureW < 2 ^ 32) && decide (r.captureH < 2 ^ 32) && decide (r.captureS < 2 ^ 32)

/-- The geometry registers latched from a record (R9, R28); signed values as two's complement (R203). -/
def latch (r : ProviderRecord) : Geometry where
  capW := BitVec.ofNat 32 r.captureW
  capH := BitVec.ofNat 32 r.captureH
  capS := BitVec.ofNat 32 r.captureS
  displayId := BitVec.ofInt 32 r.displayId
  displayW := BitVec.ofInt 32 r.displayW
  displayH := BitVec.ofInt 32 r.displayH
  backendName := r.backendName

/-- A chunk of length k with 1 ≤ k ≤ IN_CAP − IBUF_LEN (R222). -/
def legalChunk (c : List Byte) (s : State) : Bool :=
  decide (1 ≤ c.length) && decide (c.length ≤ s.params.inCap - s.ibufLen)

end Sys2Proof.Machine
end

