-- ==== Sys2Proof/Syntax.lean ====
section
/-! DEFINITION. The instructions: one constructor per row of spec/opcode_table.json (R86, R101).
`args` are the bytes of the command after OP, offsets 5 to 3 + LEN (ARG0 and the extra bytes XB of
R80), so LEN = 1 + args.length. A range of ignored opcodes carries the bits of OP its row leaves free. -/

namespace Sys2Proof

/-- A complete command (R80, R81, R86). -/
inductive Instr where
  /-- REQ_RGB24, opcode 1 (R113). -/
  | reqRgb24 (args : List Byte)
  /-- REQ_RGB24_ALT, opcode 2 (R114). -/
  | reqRgb24Alt (args : List Byte)
  /-- REQ_RGB565, opcode 3 (R115). -/
  | reqRgb565 (args : List Byte)
  /-- REQ_MONO, opcode 4 (R116). -/
  | reqMono (args : List Byte)
  /-- REQ_MONO_COL, opcode 5 (R117). -/
  | reqMonoCol (args : List Byte)
  /-- SET_THRESHOLD, opcode 6; its operand t is ARG0 (R118). -/
  | setThreshold (args : List Byte)
  /-- SET_DITHER, opcode 7; its operand m is ARG0 (R119). -/
  | setDither (args : List Byte)
  /-- HDR0, the header-only command, LEN = 0 (R121). -/
  | hdr0
  /-- IGN_00, opcode 0x00 (R120). -/
  | ign00 (args : List Byte)
  /-- IGN_08_0F, opcodes 0x08 to 0x0F (R120). -/
  | ign08To0F (low : BitVec 3) (args : List Byte)
  /-- IGN_10_1F, opcodes 0x10 to 0x1F (R120). -/
  | ign10To1F (low : BitVec 4) (args : List Byte)
  /-- IGN_20_3F, opcodes 0x20 to 0x3F (R120). -/
  | ign20To3F (low : BitVec 5) (args : List Byte)
  /-- IGN_40_7F, opcodes 0x40 to 0x7F (R120). -/
  | ign40To7F (low : BitVec 6) (args : List Byte)
  /-- IGN_80_FF, opcodes 0x80 to 0xFF (R120). -/
  | ign80ToFF (low : BitVec 7) (args : List Byte)
  deriving DecidableEq, Repr

/-- The bytes of the command after OP: ARG0, then the extra bytes (R80). -/
def Instr.args : Instr → List Byte
  | .reqRgb24 args => args
  | .reqRgb24Alt args => args
  | .reqRgb565 args => args
  | .reqMono args => args
  | .reqMonoCol args => args
  | .setThreshold args => args
  | .setDither args => args
  | .hdr0 => []
  | .ign00 args => args
  | .ign08To0F _ args => args
  | .ign10To1F _ args => args
  | .ign20To3F _ args => args
  | .ign40To7F _ args => args
  | .ign80ToFF _ args => args

/-- The row of spec/opcode_table.json an instruction belongs to, by its mnemonic. -/
def Instr.mnemonic : Instr → String
  | .reqRgb24 _ => "REQ_RGB24"
  | .reqRgb24Alt _ => "REQ_RGB24_ALT"
  | .reqRgb565 _ => "REQ_RGB565"
  | .reqMono _ => "REQ_MONO"
  | .reqMonoCol _ => "REQ_MONO_COL"
  | .setThreshold _ => "SET_THRESHOLD"
  | .setDither _ => "SET_DITHER"
  | .hdr0 => "HDR0"
  | .ign00 _ => "IGN_00"
  | .ign08To0F _ _ => "IGN_08_0F"
  | .ign10To1F _ _ => "IGN_10_1F"
  | .ign20To3F _ _ => "IGN_20_3F"
  | .ign40To7F _ _ => "IGN_40_7F"
  | .ign80ToFF _ _ => "IGN_80_FF"

end Sys2Proof
end

