-- ==== Sys2Proof/WellFormed.lean ====
section
/-! DEFINITION. Which instruction terms are commands: LEN is one byte that counts OP and the bytes
after it (R80), so at most 254 bytes stand after OP. Every other field is well formed by its type. -/

namespace Sys2Proof

/-- LEN = 1 + the number of bytes after OP fits its byte (R80). -/
def Instr.wf (i : Instr) : Bool := decide (i.args.length ≤ 254)

end Sys2Proof
end

