-- ==== Sys2Proof/Decode.lean ====
section
/-! DEFINITION. The decoder, total on any bytes, and after it the encoder (30_encoding.md R80 to R95).
Also the reading of a word of spec/opcode_table.json (R101). -/

namespace Sys2Proof

/-- Why the front of a byte sequence is not a command. -/
inductive Reject where
  /-- Fewer than 4 bytes: the header is not there yet (R82). -/
  | shortHeader
  /-- One of Z0, Z1, Z2 is not 0x00 (R90). -/
  | illegalHeader
  /-- The header is legal, but fewer than 4 + LEN bytes are there (R82). -/
  | incomplete
  deriving DecidableEq, Repr

/-- The header check of R90, made once 4 bytes are there, and LEN (R82). -/
def header : List Byte → Except Reject Byte
  | z0 :: z1 :: z2 :: len :: _ => if z0 = 0 ∧ z1 = 0 ∧ z2 = 0 then .ok len else .error .illegalHeader
  | _ => .error .shortHeader

/-- The opcode map of R86, for a command with LEN ≥ 1. -/
def decodeOp (op : Byte) (args : List Byte) : Instr :=
  if op.toNat = 0x00 then .ign00 args
  else if op.toNat = 0x01 then .reqRgb24 args
  else if op.toNat = 0x02 then .reqRgb24Alt args
  else if op.toNat = 0x03 then .reqRgb565 args
  else if op.toNat = 0x04 then .reqMono args
  else if op.toNat = 0x05 then .reqMonoCol args
  else if op.toNat = 0x06 then .setThreshold args
  else if op.toNat = 0x07 then .setDither args
  else if op.toNat < 0x10 then .ign08To0F (op.setWidth 3) args
  else if op.toNat < 0x20 then .ign10To1F (op.setWidth 4) args
  else if op.toNat < 0x40 then .ign20To3F (op.setWidth 5) args
  else if op.toNat < 0x80 then .ign40To7F (op.setWidth 6) args
  else .ign80ToFF (op.setWidth 7) args

/-- The bytes of a command after its header: none is HDR0 (R91), else OP and the bytes after it. -/
def decodeBody : List Byte → Instr
  | [] => .hdr0
  | op :: args => decodeOp op args

/-- The command at the front of a byte sequence, with the bytes after it, or why there is none. -/
def decode (bytes : List Byte) : Except Reject (Instr × List Byte) :=
  match header bytes with
  | .error r => .error r
  | .ok len =>
    let body := bytes.drop 4
    if body.length < len.toNat then .error .incomplete
    else .ok (decodeBody (body.take len.toNat), body.drop len.toNat)

/-! ## The encoder -/

/-- The value of LEN (R80, R81): 0 for the header-only command. -/
def Instr.len : Instr → Nat
  | .hdr0 => 0
  | i => 1 + i.args.length

/-- The length of the command in bytes, 4 + LEN (R80). -/
def Instr.size (i : Instr) : Nat := 4 + i.len

/-- The opcode byte of an instruction (R86); HDR0 has none. -/
def Instr.opcode : Instr → Option Byte
  | .reqRgb24 _ => some 0x01
  | .reqRgb24Alt _ => some 0x02
  | .reqRgb565 _ => some 0x03
  | .reqMono _ => some 0x04
  | .reqMonoCol _ => some 0x05
  | .setThreshold _ => some 0x06
  | .setDither _ => some 0x07
  | .hdr0 => none
  | .ign00 _ => some 0x00
  | .ign08To0F low _ => some (0b00001#5 ++ low)
  | .ign10To1F low _ => some (0b0001#4 ++ low)
  | .ign20To3F low _ => some (0b001#3 ++ low)
  | .ign40To7F low _ => some (0b01#2 ++ low)
  | .ign80ToFF low _ => some (0b1#1 ++ low)

/-- The bytes of an instruction, from R80: three zero bytes, LEN, OP and the bytes after OP. -/
def encode (i : Instr) : List Byte :=
  [0x00, 0x00, 0x00, BitVec.ofNat 8 i.len] ++ i.opcode.toList ++ i.args

/-! ## The words of spec/opcode_table.json -/

/-- The bytes of a table word of nbits bits: R101 reads the word big-endian, so byte 0 is its most
significant byte. -/
def wordBytes (nbits w : Nat) : List Byte :=
  let n := nbits / 8
  (List.range n).map fun k => BitVec.ofNat 8 (w / 2 ^ (8 * (n - 1 - k)))

/-- The same with the zero bytes past the word that its command still needs: 4 + LEN bytes at least. -/
def tableBytes (nbits w : Nat) : List Byte :=
  let bytes := wordBytes nbits w
  bytes ++ List.replicate (4 + (bytes.getD 3 0).toNat - bytes.length) 0

/-- The instruction the decoder reads from a table word. -/
def decodeTableWord (nbits w : Nat) : Option Instr :=
  match decode (tableBytes nbits w) with
  | .ok (i, _) => some i
  | .error _ => none

/-- The bytes of exactly one command whose table word is w: 4 + LEN of them. -/
def tableCommand (nbits w : Nat) : List Byte :=
  let bytes := tableBytes nbits w
  bytes.take (4 + (bytes.getD 3 0).toNat)

/-- A row of spec/opcode_table.json: its mnemonic and its 40-bit match and mask (R101). -/
structure TableRow where
  mnemonic : String
  value : BitVec 40
  mask : BitVec 40
  deriving DecidableEq, Repr

/-- The fourteen rows of spec/opcode_table.json, as the table has them. -/
def tableRows : List TableRow := [
  ⟨"REQ_RGB24",     0x0000000001, 0xFFFFFF00FF⟩,
  ⟨"REQ_RGB24_ALT", 0x0000000002, 0xFFFFFF00FF⟩,
  ⟨"REQ_RGB565",    0x0000000003, 0xFFFFFF00FF⟩,
  ⟨"REQ_MONO",      0x0000000004, 0xFFFFFF00FF⟩,
  ⟨"REQ_MONO_COL",  0x0000000005, 0xFFFFFF00FF⟩,
  ⟨"SET_THRESHOLD", 0x0000000006, 0xFFFFFF00FF⟩,
  ⟨"SET_DITHER",    0x0000000007, 0xFFFFFF00FF⟩,
  ⟨"HDR0",          0x0000000000, 0xFFFFFFFF00⟩,
  ⟨"IGN_00",        0x0000000000, 0xFFFFFF00FF⟩,
  ⟨"IGN_08_0F",     0x0000000008, 0xFFFFFF00F8⟩,
  ⟨"IGN_10_1F",     0x0000000010, 0xFFFFFF00F0⟩,
  ⟨"IGN_20_3F",     0x0000000020, 0xFFFFFF00E0⟩,
  ⟨"IGN_40_7F",     0x0000000040, 0xFFFFFF00C0⟩,
  ⟨"IGN_80_FF",     0x0000000080, 0xFFFFFF0080⟩]

/-- R101: a row matches bytes 0 to 4 of a command read as a big-endian 40-bit number, and its LEN
condition holds: HDR0 has LEN = 0 (its mask says so), every other row needs LEN ≥ 1. -/
def TableRow.matches (r : TableRow) (b0 b1 b2 len op : Byte) : Bool :=
  ((b0 ++ b1 ++ b2 ++ len ++ op : BitVec 40) &&& r.mask == r.value) && (r.mnemonic == "HDR0" || len != 0)

end Sys2Proof
end

