-- ==== Sys2Proof/Machine/Operands.lean ====
section
/-! DEFINITION. The operand forms of the commands (R83, R84). OP is the decoder's; ARG0 is the only
operand; the threshold operand's three values are in Machine/Pixel.lean (R85). -/

namespace Sys2Proof.Machine

/-- ARG0, the byte after OP, present when LEN ≥ 2 (R84); the bytes after it are ignored (R93). -/
def arg0 (args : List Byte) : Option Byte := args.head?

/-- What a command with one argument does: nothing where the argument is missing (R92). -/
def withArg0 (args : List Byte) (effect : Byte → State → State) (s : State) : State :=
  match arg0 args with
  | none => s
  | some a => effect a s

end Sys2Proof.Machine
end

