-- ==== Sys2Proof/Machine/Configure.lean ====
section
/-! DEFINITION. The configuration commands, opcodes 6 and 7 (R118, R119). -/

namespace Sys2Proof.Machine

/-- SET_THRESHOLD: the three thresholds from t = ARG0 (R118); no effect without ARG0 (R92). -/
def execSetThreshold (args : List Byte) (s : State) : Host.Outcome State Fault Refusal :=
  .next (withArg0 args writeThresholds s)

/-- SET_DITHER: DITHER_MODE <- ARG0 (R119); no effect without ARG0 (R92). -/
def execSetDither (args : List Byte) (s : State) : Host.Outcome State Fault Refusal :=
  .next (withArg0 args writeDitherMode s)

end Sys2Proof.Machine
end

