-- ==== Sys2Proof/Machine/Ignored.lean ====
section
/-! DEFINITION. The commands that change no state: HDR0 (R121) and the ignored opcodes (R89, R120). -/

namespace Sys2Proof.Machine

/-- `return`, changing no state (R120, R121). -/
def noEffect (s : State) : Host.Outcome State Fault Refusal := .next s

/-- HDR0 (R91, R121). -/
def execHdr0 (s : State) : Host.Outcome State Fault Refusal := noEffect s

/-- IGN_00 (R120). -/
def execIgn00 (_args : List Byte) (s : State) : Host.Outcome State Fault Refusal := noEffect s

/-- IGN_08_0F (R120). -/
def execIgn08To0F (_low : BitVec 3) (_args : List Byte) (s : State) : Host.Outcome State Fault Refusal := noEffect s

/-- IGN_10_1F (R120). -/
def execIgn10To1F (_low : BitVec 4) (_args : List Byte) (s : State) : Host.Outcome State Fault Refusal := noEffect s

/-- IGN_20_3F (R120). -/
def execIgn20To3F (_low : BitVec 5) (_args : List Byte) (s : State) : Host.Outcome State Fault Refusal := noEffect s

/-- IGN_40_7F (R120). -/
def execIgn40To7F (_low : BitVec 6) (_args : List Byte) (s : State) : Host.Outcome State Fault Refusal := noEffect s

/-- IGN_80_FF (R120). -/
def execIgn80ToFF (_low : BitVec 7) (_args : List Byte) (s : State) : Host.Outcome State Fault Refusal := noEffect s

end Sys2Proof.Machine
end

