-- ==== Sys2Proof/Machine/Request.lean ====
section
/-! DEFINITION. The snapshot requests, opcodes 1 to 5 (R113 to R117): each records its opcode in
PENDING_FMT and ignores the bytes after OP (R93). -/

namespace Sys2Proof.Machine

/-- REQ(op): PENDING_FMT <- op (R112). -/
def request (op : BitVec 3) (s : State) : Host.Outcome State Fault Refusal := .next (writePendingFmt op s)

/-- REQ_RGB24 (R113). -/
def execReqRgb24 (_args : List Byte) (s : State) : Host.Outcome State Fault Refusal := request 1 s

/-- REQ_RGB24_ALT (R114). -/
def execReqRgb24Alt (_args : List Byte) (s : State) : Host.Outcome State Fault Refusal := request 2 s

/-- REQ_RGB565 (R115). -/
def execReqRgb565 (_args : List Byte) (s : State) : Host.Outcome State Fault Refusal := request 3 s

/-- REQ_MONO (R116). -/
def execReqMono (_args : List Byte) (s : State) : Host.Outcome State Fault Refusal := request 4 s

/-- REQ_MONO_COL (R117). -/
def execReqMonoCol (_args : List Byte) (s : State) : Host.Outcome State Fault Refusal := request 5 s

end Sys2Proof.Machine
end

