-- ==== Sys2Proof/Machine/Dispatch.lean ====
section
/-! DEFINITION. Execute(cmd) of R112: one arm per constructor of Instr. The command has been consumed
before (R110), so `exec` has the register effect alone. -/

namespace Sys2Proof.Machine

def exec (i : Instr) (s : State) : Host.Outcome State Fault Refusal :=
  match i with
  | .reqRgb24 args => Sys2Proof.Machine.execReqRgb24 args s
  | .reqRgb24Alt args => Sys2Proof.Machine.execReqRgb24Alt args s
  | .reqRgb565 args => Sys2Proof.Machine.execReqRgb565 args s
  | .reqMono args => Sys2Proof.Machine.execReqMono args s
  | .reqMonoCol args => Sys2Proof.Machine.execReqMonoCol args s
  | .setThreshold args => Sys2Proof.Machine.execSetThreshold args s
  | .setDither args => Sys2Proof.Machine.execSetDither args s
  | .hdr0 => Sys2Proof.Machine.execHdr0 s
  | .ign00 args => Sys2Proof.Machine.execIgn00 args s
  | .ign08To0F low args => Sys2Proof.Machine.execIgn08To0F low args s
  | .ign10To1F low args => Sys2Proof.Machine.execIgn10To1F low args s
  | .ign20To3F low args => Sys2Proof.Machine.execIgn20To3F low args s
  | .ign40To7F low args => Sys2Proof.Machine.execIgn40To7F low args s
  | .ign80ToFF low args => Sys2Proof.Machine.execIgn80ToFF low args s

end Sys2Proof.Machine
end

