-- ==== Sys2Proof/Machine/Dither.lean ====
section
/-! DEFINITION. The dithering engine (41_dithering_engine.md, R140 to R149). It reads RASTER, THR_G, W,
H and S and writes DBUF. -/

namespace Sys2Proof.Machine

/-- dir of row y: +1 on even rows, −1 on odd rows (R145). -/
def direction (y : Nat) : Int := if y % 2 = 0 then 1 else -1

/-- The columns of row y in scan order (R145). -/
def scanRow (w y : Nat) : List Nat := if y % 2 = 0 then List.range w else (List.range w).reverse

/-- The serpentine scan order (R145). -/
def scan (w h : Nat) : List (Nat × Nat) :=
  (List.range h).flatMap fun y => (scanRow w y).map fun x => (x, y)

/-- DBUF[i] as a signed number (R54). -/
def readEntry (d : List Entry) (i : Nat) : Except Fault Int :=
  match readElement .dbuf d i with
  | .error f => .error f
  | .ok e => .ok e.toInt

/-- DBUF[i] <- v (R54). -/
def writeEntry (d : List Entry) (i : Nat) (v : Int) : Except Fault (List Entry) :=
  writeElement .dbuf d i (BitVec.ofInt 16 v)

/-- The four shares of the error e: q7, q3, q5, q1 (R147). -/
def shares (e : Int) : Int × Int × Int × Int :=
  let q7 := asr4 (7 * e)
  let q3 := asr4 (3 * e)
  let q5 := asr4 (5 * e)
  (q7, q3, q5, e - q7 - q3 - q5)

/-- AddIfInside(tx, ty, q) (R149). -/
def addIfInside (w h : Nat) (tx ty q : Int) (d : List Entry) : Except Fault (List Entry) :=
  if 0 ≤ tx ∧ tx < w ∧ 0 ≤ ty ∧ ty < h then
    let i := ty.toNat * w + tx.toNat
    match readEntry d i with
    | .error f => .error f
    | .ok v => writeEntry d i (v + q)
  else .ok d

/-- The decision at one pixel and the diffusion of its error (R146 to R148). -/
def ditherPixel (w h t6 : Nat) (d : List Entry) (pos : Nat × Nat) : Except Fault (List Entry) := do
  let x : Int := pos.1
  let y : Int := pos.2
  let dir := direction pos.2
  let i := pos.2 * w + pos.1
  let acc ← readEntry d i
  let on : Bool := decide (acc > (t6 : Int))
  let e := acc - (if on then 63 else 0)
  let (q7, q3, q5, q1) := shares e
  let d ← writeEntry d i (if on then 1 else 0)
  let d ← addIfInside w h (x + dir) y q7 d
  let d ← addIfInside w h (x - dir) (y + 1) q3 d
  let d ← addIfInside w h x (y + 1) q5 d
  addIfInside w h (x + dir) (y + 1) q1 d

/-- Before any decision every entry is the intensity of its pixel (R144). -/
def initialEntries (s : State) : Except Fault (List Entry) :=
  match s.logicalPixels with
  | .error f => .error f
  | .ok pixels => .ok (pixels.map fun p => BitVec.ofNat 16 (intensity p))

/-- The decisions of `Dither()`: the scan of R145 over the entries of R144 (R149). -/
def ditherEntries (s : State) : Except Fault (List Entry) :=
  match initialEntries s with
  | .error f => .error f
  | .ok d => (scan s.width s.height).foldlM (ditherPixel s.width s.height (threshold6 s.thrG)) d

/-- `Dither()` (R149): it writes DBUF alone. -/
def dither (s : State) : Except Fault State :=
  match ditherEntries s with
  | .error f => .error f
  | .ok d => .ok (writeDbuf d s)

end Sys2Proof.Machine
end

