-- ==== Sys2Proof/Machine/Flags.lean ====
section
/-! DEFINITION. The engine has no flags or condition codes (R37). The two conditions that change what
an operation does stand here: DITHER_MODE = 0 or not, PENDING_FMT = 0 or not. -/

namespace Sys2Proof.Machine

/-- DITHER_MODE ≠ 0: dithering is on (R26, R227). -/
def State.dithers (s : State) : Bool := s.ditherMode != 0

/-- PENDING_FMT ≠ 0: a snapshot is pending (R27, R225). -/
def State.snapshotPending (s : State) : Bool := s.pendingFmt != 0

end Sys2Proof.Machine
end

