-- ==== Sys2Proof/Machine/Encoders.lean ====
section
/-! DEFINITION. The on-predicate and the four converters (42_pixel_encoders.md, R170 to R181). A
converter reads the state and writes none of it (R170). -/

namespace Sys2Proof.Machine

/-- Pix(x, y) (R173). -/
def State.pixelOn (s : State) (x y : Nat) : Except Fault Bool :=
  if s.dithers then
    match s.readDecision x y with
    | .error f => .error f
    | .ok e => .ok (e != 0)
  else
    match s.readPixel x y with
    | .error f => .error f
    | .ok p => .ok (comparatorOn s.thrR s.thrG s.thrB p)

/-- The direct-24 bytes of one pixel: high, middle, low (R175, D1). -/
def direct24 (p : Pixel) : List Byte := [expandHigh p, expandMiddle p, expandLow p]

/-- ENC24 (R175). -/
def enc24 (s : State) : Except Fault (List Byte) :=
  match s.logicalPixels with
  | .error f => .error f
  | .ok pixels => .ok (pixels.flatMap direct24)

/-- ENC16 (R176). -/
def enc16 (s : State) : Except Fault (List Byte) :=
  match s.logicalPixels with
  | .error f => .error f
  | .ok pixels => .ok (pixels.flatMap le16)

/-- A byte from its bits, the first bit the least significant (R177, R178). -/
def packBits : List Bool → Byte
  | [] => 0
  | b :: rest => (packBits rest <<< 1) ||| (BitVec.ofBool b).setWidth 8

/-- One byte of a mono payload: bit i is Pix at the i-th position of its group (R177, R178). -/
def monoByte (s : State) (at_ : Nat → Nat × Nat) : Except Fault Byte :=
  match collect ((List.range 8).map fun i => s.pixelOn (at_ i).1 (at_ i).2) with
  | .error f => .error f
  | .ok bits => .ok (packBits bits)

/-- ENCMONO (R177). -/
def encMono (s : State) : Except Fault (List Byte) :=
  collect ((List.range s.height).flatMap fun y =>
    (List.range (s.width / 8)).map fun g => monoByte s fun i => (8 * g + i, y))

/-- ENCMONOCOL (R178). -/
def encMonoCol (s : State) : Except Fault (List Byte) :=
  collect ((List.range s.width).flatMap fun x =>
    (List.range (s.height / 8)).map fun g => monoByte s fun i => (x, 8 * g + i))

/-- The four converters. -/
inductive Converter where
  | enc24
  | enc16
  | encMono
  | encMonoCol
  deriving DecidableEq, Repr

/-- The converter PENDING_FMT selects (R179); 0, 6 and 7 select none (R27). -/
def converterOf (f : BitVec 3) : Option Converter :=
  if f = 1 then some .enc24
  else if f = 2 then some .enc24
  else if f = 3 then some .enc16
  else if f = 4 then some .encMono
  else if f = 5 then some .encMonoCol
  else none

/-- The precondition of a converter on the geometry (R181). -/
def Converter.accepts (c : Converter) (s : State) : Bool :=
  match c with
  | .enc24 => true
  | .enc16 => true
  | .encMono => s.width % 8 == 0
  | .encMonoCol => s.height % 8 == 0

/-- The payload of a snapshot (R98, R179). -/
def Converter.payload (c : Converter) (s : State) : Except Fault (List Byte) :=
  match c with
  | .enc24 => Sys2Proof.Machine.enc24 s
  | .enc16 => Sys2Proof.Machine.enc16 s
  | .encMono => Sys2Proof.Machine.encMono s
  | .encMonoCol => Sys2Proof.Machine.encMonoCol s

end Sys2Proof.Machine
end

