-- ==== Sys2Proof/Machine/Fetch.lean ====
section
/-! DEFINITION. One pass of the parser loop up to Execute (R110): the checks of R246 in their order. -/

namespace Sys2Proof.Machine

/-- What the parser finds at the front of IBUF. -/
inductive Fetched where
  /-- No complete command: wait for more input (R246, checks 1 and 4). -/
  | wait
  /-- A check fails (R246, checks 2 and 3). -/
  | fatal (code : FatalCode)
  /-- A complete command and its length in bytes. -/
  | command (i : Instr) (size : Nat)
  deriving DecidableEq, Repr

/-- The checks of R246: 4 bytes, header, capacity, whole command. -/
def fetch (inCap : Nat) (ibuf : List Byte) : Fetched :=
  match header ibuf with
  | .error .shortHeader => .wait
  | .error .illegalHeader => .fatal .fHdr
  | .error .incomplete => .wait
  | .ok len =>
    if 4 + len.toNat > inCap then .fatal .fOvf
    else
      match decode ibuf with
      | .ok (i, _) => .command i (4 + len.toNat)
      | .error _ => .wait

/-- Place a table word's command at the front of an otherwise empty IBUF, the parser about to run. A
command longer than 6 bytes raises IN_CAP by what it is longer, so that with R8 it fits (entry 17). -/
def placeCommand (nbits w : Nat) (s : State) : State :=
  let bytes := tableCommand nbits w
  { s with
    ibuf := bytes
    fsm := .drain
    params := { s.params with inCap := s.params.inCap + (bytes.length - 6) } }

end Sys2Proof.Machine
end

