-- ==== Sys2Proof/Machine/Framer.lean ====
section
/-! DEFINITION. The packet framer and the capability packet (43_packet_framer.md, R200, R203). -/

namespace Sys2Proof.Machine

/-- Frame(payload) = BE32(n) ++ payload, n the payload's length (R200). -/
def frame (payload : List Byte) : List Byte := be32 payload.length ++ payload

/-- Cap(): the capability payload (R97, R203). -/
def capability (g : Geometry) : List Byte :=
  g.backendName.toList ++ le32 g.displayId ++ le32 g.displayW ++ le32 g.displayH ++ le32 g.capW ++ le32 g.capH

end Sys2Proof.Machine
end

