-- ==== Sys2Proof/Machine/Driver.lean ====
section
/-! DEFINITION. The Driver (44_driver.md, R220 to R231): one function for each state of FSM. -/

namespace Sys2Proof.Machine

/-- INIT (R221): the provider's answer, the geometry, the capability packet. -/
def stepInit (s : State) : Host.Outcome State Fault Refusal :=
  let asked := takeInitAnswer (recordCall (.initializeProvider s.params.deviceId s.params.reqW s.params.reqH) s)
  match s.initAnswer with
  | .error => .next (raiseFatal .fInit asked)
  | .ready r =>
    if legalRecord r then
      .next (emitPacket (frame (capability (latch r))) (setFsm .await) (latchGeometry (latch r) asked))
    else .refused .answerOutsideContract

/-- AWAIT (R222, R223, R230, R231): one event, or the wait goes on (R233, R257). -/
def stepAwait (s : State) : Host.Outcome State Fault Refusal :=
  let taken := takeHostEvent s
  match s.hostEvent with
  | none => .next taken
  | some (.chunk c) =>
    if legalChunk c s then .next (setFsm .drain (appendChunk c taken)) else .refused .chunkOutsideBounds
  | some .eof => .next (shutDown (discardInput (recordCall .finalize taken)))
  | some .readError => .next (raiseFatal .fRd taken)

/-- Drain has returned: the Driver reads PENDING_FMT (R225). -/
def endDrain (s : State) : State := setFsm (if s.snapshotPending then .emit else .await) s

/-- DRAIN (R110, R224): one pass of the parser loop. -/
def stepDrain (s : State) : Host.Outcome State Fault Refusal :=
  match fetch s.params.inCap s.ibuf with
  | .wait => .next (endDrain s)
  | .fatal code => .next (raiseFatal code s)
  | .command i size => exec i (consume size s)

/-- At most k passes of the parser loop, while FSM is DRAIN. -/
def drainFor : Nat → State → Host.Outcome State Fault Refusal
  | 0, s => .next s
  | k + 1, s =>
    if s.fsm = .drain then
      match stepDrain s with
      | .next t => drainFor k t
      | .fault f => .fault f
      | .refused r => .refused r
    else .next s

/-- `Drain()` run to its end (R110, R224): a pass that goes on consumes at least 4 bytes (R124), so
IBUF_LEN + 1 passes are enough. `step` takes these passes one at a time; claims cite this form. -/
def drain (s : State) : Host.Outcome State Fault Refusal := drainFor (s.ibufLen + 1) s

/-- The end of a snapshot cycle: PENDING_FMT <- 0, FSM <- AWAIT (R228, R229). -/
def endSnapshot (s : State) : State := setFsm .await (writePendingFmt 0 s)

/-- The capture and, where dithering is on, the dithering engine (R226, R227). -/
def prepareSnapshot (s : State) : Except Fault State :=
  if s.dithers then dither (capture s) else .ok (capture s)

/-- EMIT: `Snapshot()` (R228). -/
def stepEmit (s : State) : Host.Outcome State Fault Refusal :=
  match converterOf s.pendingFmt with
  | none => .fault .noFormatPending
  | some c =>
    if c.accepts s then
      match prepareSnapshot s with
      | .error f => .fault f
      | .ok prepared =>
        match c.payload prepared with
        | .error f => .fault f
        | .ok payload =>
          if payload.length < 2 ^ 32 then .next (emitPacket (frame payload) endSnapshot prepared)
          else .fault .payloadTooLong
    else .refused .monoGeometry

end Sys2Proof.Machine
end

