-- ==== Sys2Proof/Machine/Step.lean ====
section
/-! DEFINITION. One step of the engine (R220), and where a table word is placed to be run next. -/

namespace Sys2Proof.Machine

/-- One step: FSM says which part of the Driver runs (R220). SHUTDOWN and FAILED are terminal (U20). -/
def step (s : State) : Host.Outcome State Fault Refusal :=
  match s.fsm with
  | .init => stepInit s
  | .await => stepAwait s
  | .drain => stepDrain s
  | .emit => stepEmit s
  | .shutdown => .fault .halted
  | .failed => .fault .halted

/-- s with the command of a table word at the front of IBUF and the parser about to run (entry 17). -/
def State.withFetchWord (s : State) (nbits w : Nat) : State := placeCommand nbits w s

end Sys2Proof.Machine
end

