-- ==== Sys2Proof/Safety.lean ====
section
/-! DEFINITION. What counts as a safe run, in the terms the claims use: the invariant of every
reachable state, the history of OUT and of the provider calls, and runs of commands. -/

namespace Sys2Proof.Machine

/-- The engine has stopped: no event is accepted any more (R220). -/
def State.terminal (s : State) : Bool := s.fsm == .shutdown || s.fsm == .failed

/-- The three threshold registers are derived from one threshold value (R24). -/
def State.thresholdsDerived (s : State) : Prop :=
  ∃ t : Byte, s.thrR = thresholdR t ∧ s.thrG = thresholdG t ∧ s.thrB = thresholdB t

/-- STATUS is what FSM says (R33). -/
def statusAgrees : Fsm → Status → Bool
  | .init, st => st == .running
  | .await, st => st == .running
  | .drain, st => st == .running
  | .emit, st => st == .running
  | .shutdown, st => st == .exitOk
  | .failed, .exitFail _ => true
  | .failed, .running => false
  | .failed, .exitOk => false

/-- What holds of every state a run from reset reaches, over registers and buffers. -/
structure State.Inv (s : State) : Prop where
  /-- IN_CAP ≥ 6 (R8). -/
  capacityFloor : 6 ≤ s.params.inCap
  /-- The arrays have their canonical form: IBUF within IN_CAP, S·H words, W·H entries (R29, R30, R31, R66). -/
  memory : Memory.wf s
  /-- Outside INIT, DRAIN and the terminal states the parser has nothing left to do (R124). -/
  inputParsed : s.fsm = .await ∨ s.fsm = .emit → fetch s.params.inCap s.ibuf = .wait
  /-- PENDING_FMT = 0 in AWAIT (R32). -/
  awaitIdle : s.fsm = .await → s.pendingFmt = 0
  /-- PENDING_FMT ≠ 0 in EMIT (R220). -/
  emitPending : s.fsm = .emit → s.pendingFmt ≠ 0
  /-- 6 and 7 are never written to PENDING_FMT (R27). -/
  formatLegal : s.pendingFmt.toNat ≤ 5
  /-- The thresholds are always derived by the formulas (R24). -/
  thresholds : s.thresholdsDerived
  /-- The geometry meets R8. -/
  geometryLegal : legalGeometry s.width s.height s.stride = true
  /-- Nothing has been captured, decided, read or requested in INIT; RASTER and DBUF have no element there
  (R40, R271, entries 2, 3). -/
  initFresh : s.fsm = .init → s.raster = [] ∧ s.dbuf = [] ∧ s.ibuf = [] ∧ s.pendingFmt = 0
  /-- STATUS and FSM agree (R33). -/
  statusAgrees : statusAgrees s.fsm s.status = true

/-- OUT is the capability packet and then one packet for each payload, in order (R96, R206). -/
def packets (g : Geometry) (payloads : List (List Byte)) : List Byte :=
  frame (capability g) ++ (payloads.map frame).flatten

/-- The calls of a run that has taken n captures (R254). -/
def callsAfter (p : Params) (captures : Nat) : List ProviderCall :=
  .initializeProvider p.deviceId p.reqW p.reqH :: List.replicate captures .captureFrame

/-- What a run shows so far: OUT and the provider calls, with one capture for each snapshot packet. -/
structure State.History (s : State) : Prop where
  /-- Nothing before INIT. -/
  atInit : s.fsm = .init → s.out = [] ∧ s.calls = []
  /-- While the engine runs: whole packets, one capture each (R34, R228). -/
  atWork : s.fsm = .await ∨ s.fsm = .drain ∨ s.fsm = .emit →
    ∃ payloads, s.out = packets s.geometry payloads ∧ s.calls = callsAfter s.params payloads.length
  /-- At orderly shutdown: the same, and finalize once (R230). -/
  atShutdown : s.fsm = .shutdown →
    ∃ payloads, s.out = packets s.geometry payloads ∧
      s.calls = callsAfter s.params payloads.length ++ [.finalize]
  /-- After a fatal condition: OUT is a prefix of such a sequence of packets, initialize was called once
  and first, finalize at most once (R34, R241, R254). -/
  atFailure : s.fsm = .failed →
    (∃ payloads, s.out <+: packets s.geometry payloads) ∧ s.calls.count .finalize ≤ 1 ∧
      s.calls.head? = some (.initializeProvider s.params.deviceId s.params.reqW s.params.reqH) ∧
      ∀ c ∈ s.calls.tail, c = .captureFrame ∨ c = .finalize

/-- Execute a list of commands one after the other (R110). -/
def runCommands : List Instr → State → Host.Outcome State Fault Refusal
  | [], s => .next s
  | i :: rest, s =>
    match exec i s with
    | .next t => runCommands rest t
    | .fault f => .fault f
    | .refused r => .refused r

/-- The format a snapshot request asks for (R113 to R117). -/
def requestedFormat : Instr → Option (BitVec 3)
  | .reqRgb24 _ => some 1
  | .reqRgb24Alt _ => some 2
  | .reqRgb565 _ => some 3
  | .reqMono _ => some 4
  | .reqMonoCol _ => some 5
  | .setThreshold _ => none
  | .setDither _ => none
  | .hdr0 => none
  | .ign00 _ => none
  | .ign08To0F _ _ => none
  | .ign10To1F _ _ => none
  | .ign20To3F _ _ => none
  | .ign40To7F _ _ => none
  | .ign80ToFF _ _ => none

/-- Two rasters agree on every logical pixel; their padding may differ (R51). -/
def sameLogicalPixels (s t : State) : Prop :=
  s.geometry = t.geometry ∧
    ∀ x y, x < s.width → y < s.height → s.readPixel x y = t.readPixel x y

end Sys2Proof.Machine
end

