-- ==== Sys2Proof/Certificates/Slice0/Obligations.lean ====
section
/-! DEFINITION. The statements for the provers. Each docstring names the rules of spec/ it formalises;
a clause that rests on a choice of the model says so and names its entry of the assumption log. -/

open Sys2Proof Sys2Proof.Machine

/-! ## Encoding -/

/-- R87: the minimal encoding of each defined command, read and written, for every argument byte. -/
def Obligations.MinimalEncodingsAreAsListed : Prop :=
  ∀ t m : Byte,
    (encode (.reqRgb24 []) = [0x00, 0x00, 0x00, 0x01, 0x01] ∧
      decode [0x00, 0x00, 0x00, 0x01, 0x01] = .ok (.reqRgb24 [], [])) ∧
    (encode (.reqRgb24Alt []) = [0x00, 0x00, 0x00, 0x01, 0x02] ∧
      decode [0x00, 0x00, 0x00, 0x01, 0x02] = .ok (.reqRgb24Alt [], [])) ∧
    (encode (.reqRgb565 []) = [0x00, 0x00, 0x00, 0x01, 0x03] ∧
      decode [0x00, 0x00, 0x00, 0x01, 0x03] = .ok (.reqRgb565 [], [])) ∧
    (encode (.reqMono []) = [0x00, 0x00, 0x00, 0x01, 0x04] ∧
      decode [0x00, 0x00, 0x00, 0x01, 0x04] = .ok (.reqMono [], [])) ∧
    (encode (.reqMonoCol []) = [0x00, 0x00, 0x00, 0x01, 0x05] ∧
      decode [0x00, 0x00, 0x00, 0x01, 0x05] = .ok (.reqMonoCol [], [])) ∧
    (encode (.setThreshold [t]) = [0x00, 0x00, 0x00, 0x02, 0x06, t] ∧
      decode [0x00, 0x00, 0x00, 0x02, 0x06, t] = .ok (.setThreshold [t], [])) ∧
    (encode (.setDither [m]) = [0x00, 0x00, 0x00, 0x02, 0x07, m] ∧
      decode [0x00, 0x00, 0x00, 0x02, 0x07, m] = .ok (.setDither [m], []))

/-- R80, R82, R86: decoding the bytes of a well-formed instruction gives it back, whatever follows. -/
def Obligations.DecodeInvertsEncode : Prop :=
  ∀ (i : Instr) (rest : List Byte), i.wf = true → decode (encode i ++ rest) = .ok (i, rest)

/-- R80, R82: a decoded command is well formed and its bytes are exactly those it was read from. -/
def Obligations.EncodeInvertsDecode : Prop :=
  ∀ (bytes : List Byte) (i : Instr) (rest : List Byte), decode bytes = .ok (i, rest) →
    i.wf = true ∧ (encode i).length = i.size ∧ encode i ++ rest = bytes

/-- R86, R101: exactly one row of the opcode table matches a decoded command, the row of the
instruction the decoder names. -/
def Obligations.OneTableRowMatches : Prop :=
  ∀ (b0 b1 b2 len op : Byte) (tail : List Byte) (i : Instr) (rest : List Byte),
    decode (b0 :: b1 :: b2 :: len :: op :: tail) = .ok (i, rest) →
      (tableRows.filter fun r => r.matches b0 b1 b2 len op).map (·.mnemonic) = [i.mnemonic]

/-! ## Commands -/

/-- R113 to R117, R93: each snapshot request completes in every state, writes its opcode to PENDING_FMT
and changes nothing else, whatever bytes follow OP. -/
def Obligations.RequestsRecordTheirOpcode : Prop :=
  ∀ (args : List Byte) (s : State),
    exec (.reqRgb24 args) s = .next { s with pendingFmt := 1 } ∧
    exec (.reqRgb24Alt args) s = .next { s with pendingFmt := 2 } ∧
    exec (.reqRgb565 args) s = .next { s with pendingFmt := 3 } ∧
    exec (.reqMono args) s = .next { s with pendingFmt := 4 } ∧
    exec (.reqMonoCol args) s = .next { s with pendingFmt := 5 }

/-- R118, R92, R93: SET_THRESHOLD completes in every state; with ARG0 = t it writes the three
thresholds and nothing else, whatever follows t; without ARG0 it changes nothing. -/
def Obligations.SetThresholdWritesAllThree : Prop :=
  ∀ (t : Byte) (extra : List Byte) (s : State),
    exec (.setThreshold (t :: extra)) s =
        .next { s with
          thrR := BitVec.ofNat 16 (t.toNat / 8)
          thrG := BitVec.ofNat 16 (t.toNat / 4 * 32)
          thrB := BitVec.ofNat 16 (t.toNat / 8 * 2048) } ∧
      exec (.setThreshold []) s = .next s

/-- R119, R92, R93: SET_DITHER completes in every state; with ARG0 = m it stores m and changes nothing
else, whatever follows m; without ARG0 it changes nothing. -/
def Obligations.SetDitherStoresTheByte : Prop :=
  ∀ (m : Byte) (extra : List Byte) (s : State),
    exec (.setDither (m :: extra)) s = .next { s with ditherMode := m } ∧ exec (.setDither []) s = .next s

/-- R89, R91, R120, R121: HDR0 and every ignored opcode complete in every state and change nothing. -/
def Obligations.IgnoredCommandsChangeNothing : Prop :=
  ∀ (args : List Byte) (l3 : BitVec 3) (l4 : BitVec 4) (l5 : BitVec 5) (l6 : BitVec 6) (l7 : BitVec 7) (s : State),
    exec .hdr0 s = .next s ∧ exec (.ign00 args) s = .next s ∧ exec (.ign08To0F l3 args) s = .next s ∧
      exec (.ign10To1F l4 args) s = .next s ∧ exec (.ign20To3F l5 args) s = .next s ∧
      exec (.ign40To7F l6 args) s = .next s ∧ exec (.ign80ToFF l7 args) s = .next s

/-- R112: the frame of every command. Every element of RASTER, DBUF and IBUF reads as before; the
geometry, FSM, STATUS, OUT, the parameters, the provider calls and the environment are unchanged;
PENDING_FMT changes only for a request, DITHER_MODE only for SET_DITHER, the thresholds only for
SET_THRESHOLD. -/
def Obligations.CommandFrame : Prop :=
  ∀ (i : Instr) (s t : State), exec i s = .next t →
    (∀ k : Nat, readElement .raster t.raster k = readElement .raster s.raster k) ∧
    (∀ k : Nat, readElement .dbuf t.dbuf k = readElement .dbuf s.dbuf k) ∧ (∀ k : Nat, t.ibuf[k]? = s.ibuf[k]?) ∧
    t.geometry = s.geometry ∧ t.fsm = s.fsm ∧ t.status = s.status ∧ t.out = s.out ∧ t.params = s.params ∧
    t.calls = s.calls ∧ t.env = s.env ∧
    (requestedFormat i = none → t.pendingFmt = s.pendingFmt) ∧
    ((∀ args, i ≠ .setDither args) → t.ditherMode = s.ditherMode) ∧
    ((∀ args, i ≠ .setThreshold args) → t.thrR = s.thrR ∧ t.thrG = s.thrG ∧ t.thrB = s.thrB)

/-- R110, R111, R36: in DRAIN, when the bytes of IBUF decode to an instruction that fits IN_CAP, one
step consumes exactly its bytes and is the instruction's execution. -/
def Obligations.StepRunsDecodedInstruction : Prop :=
  ∀ (s : State) (i : Instr) (rest : List Byte), s.fsm = .drain → decode s.ibuf = .ok (i, rest) →
    i.size ≤ s.params.inCap → step s = exec i { s with ibuf := rest }

/-- R36, R82, R93: a well-formed command that fits IN_CAP runs from its own bytes, and what follows them
stays in IBUF. -/
def Obligations.CommandConsumesItsBytes : Prop :=
  ∀ (s : State) (i : Instr) (rest : List Byte), s.fsm = .drain → s.ibuf = encode i ++ rest → i.wf = true →
    i.size ≤ s.params.inCap → ∃ t, step s = .next t ∧ t.ibuf = rest ∧ exec i { s with ibuf := rest } = .next t

/-! ## The parser -/

/-- R90: a header that is not 00 00 00 stops the engine with F_HDR once 4 bytes are there. No register,
buffer or output changes (R240, R241; that IBUF keeps its bytes is entry 20); the provider may or may not
be finalized (R241; entries 12 and 15); no further step is made (R243). -/
def Obligations.IllegalHeaderIsFatal : Prop :=
  ∀ (s : State) (z0 z1 z2 len : Byte) (tail : List Byte), s.fsm = .drain →
    s.ibuf = z0 :: z1 :: z2 :: len :: tail → ¬ (z0 = 0 ∧ z1 = 0 ∧ z2 = 0) →
      ∃ t, step s = .next t ∧ t.fsm = .failed ∧ t.status = .exitFail .fHdr ∧ (∀ u, step t ≠ .next u) ∧
        (t.calls = s.calls ∨ t.calls = s.calls ++ [.finalize]) ∧
        { t with fsm := s.fsm, status := s.status, calls := s.calls, env := s.env } = s

/-- R94: a command with a legal header that cannot fit IN_CAP stops the engine with F_OVF once its
header is there. No register, buffer or output changes (R241; IBUF: entry 20); the provider may or may not
be finalized (entries 12 and 15); no further step is made (R243). -/
def Obligations.OversizedCommandIsFatal : Prop :=
  ∀ (s : State) (len : Byte) (tail : List Byte), s.fsm = .drain → s.ibuf = 0 :: 0 :: 0 :: len :: tail →
    s.params.inCap < 4 + len.toNat →
      ∃ t, step s = .next t ∧ t.fsm = .failed ∧ t.status = .exitFail .fOvf ∧ (∀ u, step t ≠ .next u) ∧
        (t.calls = s.calls ∨ t.calls = s.calls ++ [.finalize]) ∧
        { t with fsm := s.fsm, status := s.status, calls := s.calls, env := s.env } = s

/-- R225, R246: with fewer than 4 bytes, or a legal header that fits IN_CAP and fewer than 4 + LEN
bytes, Drain returns: the Driver goes to AWAIT if PENDING_FMT = 0, else to EMIT, and nothing else changes. -/
def Obligations.ParserWaitsForTheRest : Prop :=
  ∀ s : State, s.fsm = .drain →
    (s.ibuf.length < 4 ∨
      ∃ (len : Byte) (tail : List Byte), s.ibuf = 0 :: 0 :: 0 :: len :: tail ∧ 4 + len.toNat ≤ s.params.inCap ∧
        tail.length < len.toNat) →
      step s = .next { s with fsm := if s.pendingFmt = 0 then .await else .emit }

/-- R124: every Drain ends, within IBUF_LEN / 4 + 1 steps (a pass that goes on consumes at least 4
bytes); when it returns normally, what is left is no whole command and is shorter than IN_CAP. The spec derives R124 from R110 and R8. -/
def Obligations.DrainAlwaysEnds : Prop :=
  ∀ s : State, s.fsm = .drain → 6 ≤ s.params.inCap →
    (∀ t, step s = .next t → t.fsm = .drain →
      t.ibuf.length + 4 ≤ s.ibuf.length ∧ (s.ibuf.length ≤ s.params.inCap → t.ibuf.length ≤ t.params.inCap)) ∧
    ∃ (k : Nat) (t : State), k ≤ s.ibuf.length / 4 + 1 ∧ Host.Core.run Sys2Proof.core k s = .next t ∧
      (t.fsm = .failed ∨
        ((t.fsm = .await ∨ t.fsm = .emit) ∧ t.ibuf.length < t.params.inCap ∧
          (t.ibuf.length < 4 ∨
            ∃ (len : Byte) (tail : List Byte), t.ibuf = 0 :: 0 :: 0 :: len :: tail ∧ t.ibuf.length < 4 + len.toNat ∧
              4 + len.toNat ≤ t.params.inCap)))

/-- R110: a Drain over whole commands that fit IN_CAP, followed by bytes the parser waits on, executes
every one of them in order and returns. -/
def Obligations.DrainExecutesEveryCommand : Prop :=
  ∀ (s : State) (is : List Instr) (tail : List Byte), s.fsm = .drain → s.ibuf = is.flatMap encode ++ tail →
    (∀ i ∈ is, i.wf = true ∧ i.size ≤ s.params.inCap) → fetch s.params.inCap tail = .wait →
      ∃ t, runCommands is { s with ibuf := tail } = .next t ∧
        drain s = .next { t with fsm := if t.pendingFmt = 0 then .await else .emit }

/-- R122, R123: draining a chunk and then, from what it leaves, more bytes, is draining them all at
once; and a fatal condition is raised whether or not more bytes follow.
The spec marks R122 and R123 as derived from other rules. -/
def Obligations.ChunkingDoesNotMatter : Prop :=
  ∀ (s t : State) (more : List Byte), s.fsm = .drain → drain s = .next t →
    (t.fsm ≠ .failed →
      drain { s with ibuf := s.ibuf ++ more } = drain { t with fsm := .drain, ibuf := t.ibuf ++ more }) ∧
    (t.fsm = .failed → drain { s with ibuf := s.ibuf ++ more } = .next { t with ibuf := t.ibuf ++ more })

/-- R127: over the commands of a Drain the last request decides PENDING_FMT, and a request before
another leaves no trace.
The spec marks R127 as derived from other rules. -/
def Obligations.LastRequestDecides : Prop :=
  (∀ (is : List Instr) (s t : State), runCommands is s = .next t →
    t.pendingFmt = (is.filterMap requestedFormat).getLast?.getD s.pendingFmt) ∧
  (∀ (before between after : List Instr) (early late : Instr) (s : State),
    requestedFormat early ≠ none → requestedFormat late ≠ none →
      runCommands (before ++ early :: (between ++ late :: after)) s =
        runCommands (before ++ (between ++ late :: after)) s)

/-! ## Pixels -/

/-- R25: the thresholds depend only on T6 = t >> 2.
The spec marks R25 as derived from other rules. -/
def Obligations.ThresholdsDependOnTopSixBits : Prop :=
  (∀ t : Byte, t.toNat / 4 ≤ 63 ∧ (thresholdG t).toNat = t.toNat / 4 * 32 ∧
    (thresholdR t).toNat = t.toNat / 4 / 2 ∧ (thresholdB t).toNat = t.toNat / 4 / 2 * 2048) ∧
  ∀ (t u : Byte) (s : State), t.toNat / 4 = u.toNat / 4 → writeThresholds t s = writeThresholds u s

/-- R143: the comparator turns a pixel on exactly where its intensity exceeds T6.
The spec marks R143 as derived from other rules. -/
def Obligations.ComparatorIsIntensityAboveT6 : Prop :=
  ∀ (p : Pixel) (t : Byte),
    comparatorOn (thresholdR t) (thresholdG t) (thresholdB t) p = true ↔ intensity p > threshold6 (thresholdG t)

/-- R171, R180: the comparator compares each lane with its own threshold. -/
def Obligations.ComparatorComparesEachLane : Prop :=
  ∀ (p : Pixel) (t : Byte),
    comparatorOn (thresholdR t) (thresholdG t) (thresholdB t) p = true ↔
      ((fieldLow p).toNat > t.toNat / 8 ∨ (fieldMiddle p).toNat > t.toNat / 4 ∨ (fieldHigh p).toNat > t.toNat / 8)

/-- R175, R183: a direct-24 payload has 3·W·H bytes, and the triple of pixel (x, y) holds 8·FH, 4·FM, 8·FL.
The spec marks R183 as derived from other rules. -/
def Obligations.DirectTwentyFourTriples : Prop :=
  ∀ (s : State) (out : List Byte), enc24 s = .ok out →
    out.length = 3 * s.width * s.height ∧
    ∀ x y, x < s.width → y < s.height →
      ∃ p b0 b1 b2, s.readPixel x y = .ok p ∧ out[3 * (y * s.width + x)]? = some b0 ∧
        out[3 * (y * s.width + x) + 1]? = some b1 ∧ out[3 * (y * s.width + x) + 2]? = some b2 ∧
        b0.toNat = 8 * (fieldHigh p).toNat ∧ b1.toNat = 4 * (fieldMiddle p).toNat ∧ b2.toNat = 8 * (fieldLow p).toNat

/-- R176, R182: direct-16 is lossless: as W·H little-endian words the payload is the logical pixels.
The spec marks R182 as derived from other rules. -/
def Obligations.DirectSixteenIsLossless : Prop :=
  ∀ (s : State) (out : List Byte), enc16 s = .ok out →
    out.length = 2 * s.width * s.height ∧
    ∀ x y, x < s.width → y < s.height →
      ∃ lo hi : Byte, out[2 * (y * s.width + x)]? = some lo ∧ out[2 * (y * s.width + x) + 1]? = some hi ∧
        s.raster[y * s.stride + x]? = some (hi ++ lo)

/-- R177: bit x mod 8 of ENCMONO byte y·(W/8) + x/8 is Pix(x, y), and there are W·H/8 bytes. -/
def Obligations.MonoRowMajorBits : Prop :=
  ∀ (s : State) (out : List Byte), s.width % 8 = 0 → encMono s = .ok out →
    out.length = s.width * s.height / 8 ∧
    ∀ x y, x < s.width → y < s.height →
      ∃ b : Byte, out[y * (s.width / 8) + x / 8]? = some b ∧ s.pixelOn x y = .ok (b.getLsbD (x % 8))

/-- R178: bit y mod 8 of ENCMONOCOL byte x·(H/8) + y/8 is Pix(x, y), and there are W·H/8 bytes. -/
def Obligations.MonoColumnMajorBits : Prop :=
  ∀ (s : State) (out : List Byte), s.height % 8 = 0 → encMonoCol s = .ok out →
    out.length = s.width * s.height / 8 ∧
    ∀ x y, x < s.width → y < s.height →
      ∃ b : Byte, out[x * (s.height / 8) + y / 8]? = some b ∧ s.pixelOn x y = .ok (b.getLsbD (y % 8))

/-- R184: with both preconditions met, the two mono converters encode the same decisions.
The spec marks R184 as derived from other rules. -/
def Obligations.MonoOrdersAgree : Prop :=
  ∀ (s : State) (rows columns : List Byte), s.width % 8 = 0 → s.height % 8 = 0 → encMono s = .ok rows →
    encMonoCol s = .ok columns →
      ∀ x y, x < s.width → y < s.height →
        ∃ b c : Byte, rows[y * (s.width / 8) + x / 8]? = some b ∧ columns[x * (s.height / 8) + y / 8]? = some c ∧
          b.getLsbD (x % 8) = c.getLsbD (y % 8)

/-- R185: no converter's output depends on the padding; direct-24 and direct-16 do not depend on
DITHER_MODE, the thresholds or DBUF.
The spec marks R185 as derived from other rules. -/
def Obligations.ConvertersIgnorePaddingAndMore : Prop :=
  (∀ (c : Converter) (s t : State), sameLogicalPixels s t → s.ditherMode = t.ditherMode → s.thrR = t.thrR →
    s.thrG = t.thrG → s.thrB = t.thrB → s.dbuf = t.dbuf → c.payload s = c.payload t) ∧
  ∀ s t : State, sameLogicalPixels s t → enc24 s = enc24 t ∧ enc16 s = enc16 t

/-! ## The dithering engine -/

/-- R147: the shares are the floors of 7e/16, 3e/16 and 5e/16 and the remainder, and add up to e; for
an error of R151 they lie in the ranges R151 names. -/
def Obligations.SharesAddUpToTheError : Prop :=
  ∀ e q7 q3 q5 q1 : Int, shares e = (q7, q3, q5, q1) →
    q7 + q3 + q5 + q1 = e ∧ (16 * q7 ≤ 7 * e ∧ 7 * e < 16 * q7 + 16) ∧ (16 * q3 ≤ 3 * e ∧ 3 * e < 16 * q3 + 16) ∧
      (16 * q5 ≤ 5 * e ∧ 5 * e < 16 * q5 + 16) ∧
      (-63 ≤ e ∧ e ≤ 63 → (-28 ≤ q7 ∧ q7 ≤ 27) ∧ (-12 ≤ q3 ∧ q3 ≤ 11) ∧ (-20 ≤ q5 ∧ q5 ≤ 19) ∧ (-3 ≤ q1 ∧ q1 ≤ 6))

/-- R145: the serpentine scan visits every logical pixel exactly once, in the order R145 gives, and dir is +1 on even rows
and −1 on odd rows. -/
def Obligations.ScanVisitsEachPixelOnce : Prop :=
  ∀ w h : Nat, (scan w h).Nodup ∧ (∀ x y, (x, y) ∈ scan w h ↔ x < w ∧ y < h) ∧
    (∀ x y, x < w → y < h → (scan w h)[y * w + (if y % 2 = 0 then x else w - 1 - x)]? = some (x, y)) ∧
    ∀ y, direction y = if y % 2 = 0 then 1 else -1

/-- R140, R149, R150: with a captured raster `Dither()` raises no fault and leaves one decision, 0 or 1,
for each logical pixel; it writes DBUF alone.
The spec marks R150 as derived from other rules. -/
def Obligations.DitherDecidesEveryPixel : Prop :=
  ∀ s : State, s.width ≤ s.stride → s.raster.length = s.stride * s.height →
    ∃ d, dither s = .ok { s with dbuf := d } ∧ d.length = s.width * s.height ∧ ∀ e ∈ d, e = 0 ∨ e = 1

/-- R150: DBUF after `Dither()` depends on the logical pixels, T6 and the geometry alone.
The spec marks R150 as derived from other rules. -/
def Obligations.DitherDependsOnPixelsAndT6 : Prop :=
  ∀ s t : State, sameLogicalPixels s t → threshold6 s.thrG = threshold6 t.thrG → ditherEntries s = ditherEntries t

/-- R151: with T6 in 0..63, after any part of the scan every entry of DBUF lies in −63..126, and the
error of the next decision lies in −63..63, so no sum leaves the 16-bit range.
The spec marks R151 as derived from other rules. -/
def Obligations.DitherStaysInRange : Prop :=
  ∀ (s : State) (d0 d : List Entry) (done todo : List (Nat × Nat)), threshold6 s.thrG ≤ 63 →
    initialEntries s = .ok d0 → scan s.width s.height = done ++ todo →
    done.foldlM (ditherPixel s.width s.height (threshold6 s.thrG)) d0 = .ok d →
      (∀ e ∈ d, -63 ≤ e.toInt ∧ e.toInt ≤ 126) ∧
      ∀ x y rest, todo = (x, y) :: rest → ∀ acc, readEntry d (y * s.width + x) = .ok acc →
        -63 ≤ acc - (if acc > (threshold6 s.thrG : Int) then 63 else 0) ∧
          acc - (if acc > (threshold6 s.thrG : Int) then 63 else 0) ≤ 63

/-- R152: a raster whose pixels all have intensity 0 gives every decision off; one whose pixels all have
intensity 63, with T6 < 63, gives every decision on.
The spec marks R152 as derived from other rules. -/
def Obligations.SaturatedRastersAreNotDithered : Prop :=
  ∀ (s : State) (pixels : List Pixel), s.logicalPixels = .ok pixels →
    ((∀ p ∈ pixels, intensity p = 0) → ditherEntries s = .ok (List.replicate (s.width * s.height) 0)) ∧
    ((∀ p ∈ pixels, intensity p = 63) → threshold6 s.thrG < 63 →
      ditherEntries s = .ok (List.replicate (s.width * s.height) 1))

/-! ## Packets -/

/-- R58, R200: a packet's first four bytes are the payload's length, most significant byte first. -/
def Obligations.FrameHeaderIsTheLength : Prop :=
  ∀ payload : List Byte, payload.length < 2 ^ 32 →
    ∃ b3 b2 b1 b0 : Byte, frame payload = b3 :: b2 :: b1 :: b0 :: payload ∧
      b3.toNat * 2 ^ 24 + b2.toNat * 2 ^ 16 + b1.toNat * 2 ^ 8 + b0.toNat = payload.length

/-- R97, R203, R204: the layout of the capability packet: 40 bytes that start 00 00 00 24. -/
def Obligations.CapabilityPacketLayout : Prop :=
  ∀ g : Geometry,
    frame (capability g) =
        [0x00, 0x00, 0x00, 0x24] ++ g.backendName.toList ++ le32 g.displayId ++ le32 g.displayW ++ le32 g.displayH ++
          le32 g.capW ++ le32 g.capH ∧
      (frame (capability g)).length = 40 ∧
      ∀ v : Word32, ∃ b0 b1 b2 b3 : Byte, le32 v = [b0, b1, b2, b3] ∧ v = b3 ++ b2 ++ b1 ++ b0

/-! ## The Driver -/

/-- R221, R203, R271: when the provider answers a record that meets R8 and the capability packet is
accepted, INIT latches the record, emits the packet and goes to AWAIT. RASTER and DBUF take their sizes of
S·H and W·H elements (R66), which no rule has written yet (their contents are free, entry 3); nothing else
changes but the record of the call and the environment's choices (the model's own fields, entries 5 and 15). -/
def Obligations.InitLatchesAndAnnounces : Prop :=
  ∀ (s : State) (r : ProviderRecord), s.fsm = .init → s.initAnswer = .ready r → legalRecord r = true →
    (takeInitAnswer s).writeOutcome = .accepted →
      ∃ t, step s = .next t ∧ t.width = r.captureW ∧ t.height = r.captureH ∧ t.stride = r.captureS ∧
        t.geometry.displayId = BitVec.ofInt 32 r.displayId ∧ t.geometry.displayW = BitVec.ofInt 32 r.displayW ∧
        t.geometry.displayH = BitVec.ofInt 32 r.displayH ∧ t.geometry.backendName = r.backendName ∧
        t.raster.length = r.captureS * r.captureH ∧ t.dbuf.length = r.captureW * r.captureH ∧
        t.out = s.out ++ frame (capability t.geometry) ∧ t.fsm = .await ∧
        t.calls = s.calls ++ [.initializeProvider s.params.deviceId s.params.reqW s.params.reqH] ∧
        { t with
          geometry := s.geometry, raster := s.raster, dbuf := s.dbuf, out := s.out, fsm := s.fsm
          calls := s.calls, env := s.env } = s

/-- R221, R240: when the provider answers an error the engine stops with F_INIT and OUT stays as it was. -/
def Obligations.InitErrorIsFatal : Prop :=
  ∀ s : State, s.fsm = .init → s.initAnswer = .error →
    ∃ t, step s = .next t ∧ t.fsm = .failed ∧ t.status = .exitFail .fInit ∧ t.out = s.out ∧ t.geometry = s.geometry

/-- R222, R223: in AWAIT a chunk of 1 to IN_CAP − IBUF_LEN bytes is appended to IBUF and FSM becomes
DRAIN; nothing else changes but the environment's choices (the model's own field, entry 5). -/
def Obligations.ChunkIsAppended : Prop :=
  ∀ (s : State) (c : List Byte), s.fsm = .await → s.hostEvent = some (.chunk c) → 1 ≤ c.length →
    c.length ≤ s.params.inCap - s.ibuf.length →
      ∃ t, step s = .next t ∧ t.ibuf = s.ibuf ++ c ∧ t.fsm = .drain ∧ t.ibuf.length ≤ t.params.inCap ∧
        { t with ibuf := s.ibuf, fsm := s.fsm, env := s.env } = s

/-- R257: while no event arrives the wait goes on, and all state survives it unchanged but the count of
the environment's choices (the model's own field, entries 5 and 6). -/
def Obligations.WaitingChangesNothing : Prop :=
  ∀ s : State, s.fsm = .await → s.hostEvent = none →
    ∃ t, step s = .next t ∧ { t with env := s.env } = s

/-- R230, R245: end-of-stream in AWAIT finalizes the provider and stops with EXIT_OK; the registers and
OUT stay as they were. That IBUF is emptied is the model's reading of "discarded" (entry 20). -/
def Obligations.EndOfStreamShutsDown : Prop :=
  ∀ s : State, s.fsm = .await → s.hostEvent = some .eof →
    ∃ t, step s = .next t ∧ t.fsm = .shutdown ∧ t.status = .exitOk ∧ t.calls = s.calls ++ [.finalize] ∧ t.ibuf = [] ∧
      { t with fsm := s.fsm, status := s.status, calls := s.calls, ibuf := s.ibuf, env := s.env } = s

/-- R231, R241: a read error in AWAIT stops the engine with F_RD; the registers, IBUF (entry 20) and OUT stay
as they were; the provider may or may not be finalized (entry 12). -/
def Obligations.ReadErrorIsFatal : Prop :=
  ∀ s : State, s.fsm = .await → s.hostEvent = some .readError →
    ∃ t, step s = .next t ∧ t.fsm = .failed ∧ t.status = .exitFail .fRd ∧
      { t with fsm := s.fsm, status := s.status, calls := s.calls, env := s.env } = s

/-- R220, R243: SHUTDOWN and FAILED are terminal; the model makes no further step there (entry 11). -/
def Obligations.TerminalStatesAreStuck : Prop :=
  ∀ s : State, s.fsm = .shutdown ∨ s.fsm = .failed → step s = .fault .halted

/-- R228, R179, R229: in a state that meets the invariant, a snapshot cycle whose precondition holds and
whose packet write is accepted captures a frame, runs the dithering engine exactly where DITHER_MODE ≠ 0,
emits the frame of the selected converter's payload, clears PENDING_FMT and goes to AWAIT; the other
registers, IBUF and STATUS stay as they were. That DBUF keeps its entries where DITHER_MODE = 0 is the
model's choice (entry 19): R31 calls them unspecified then. -/
def Obligations.SnapshotCycleCompletes : Prop :=
  ∀ (s : State) (c : Converter), s.Inv → s.fsm = .emit → converterOf s.pendingFmt = some c → c.accepts s = true →
    (takeFrame s).writeOutcome = .accepted →
      ∃ t prepared payload, step s = .next t ∧
        (s.ditherMode = 0 → prepared = capture s) ∧ (s.ditherMode ≠ 0 → dither (capture s) = .ok prepared) ∧
        c.payload prepared = .ok payload ∧ t.out = s.out ++ frame payload ∧ t.pendingFmt = 0 ∧ t.fsm = .await ∧
        t.calls = s.calls ++ [.captureFrame] ∧ t.raster = prepared.raster ∧ t.dbuf = prepared.dbuf ∧
        { t with
          out := s.out, pendingFmt := s.pendingFmt, fsm := s.fsm, calls := s.calls, raster := s.raster
          dbuf := s.dbuf, env := s.env } = s

/-- R64, R241: in a state that meets the invariant, a snapshot packet whose write fails stops the engine
with F_WR; OUT has grown by a proper prefix of the packet, possibly empty. -/
def Obligations.FailedSnapshotWriteIsFatal : Prop :=
  ∀ (s : State) (c : Converter) (n : Nat), s.Inv → s.fsm = .emit → converterOf s.pendingFmt = some c →
    c.accepts s = true → (takeFrame s).writeOutcome = .failed n →
      ∃ t prepared payload m, step s = .next t ∧ prepareSnapshot s = .ok prepared ∧ c.payload prepared = .ok payload ∧
        t.fsm = .failed ∧ t.status = .exitFail .fWr ∧ m < (frame payload).length ∧
        t.out = s.out ++ (frame payload).take m

/-- R181: a mono row-major snapshot with W mod 8 ≠ 0, or a mono column-major one with H mod 8 ≠ 0, is
refused, and every other pair of format and geometry is not. -/
def Obligations.MonoGeometryIsRefused : Prop :=
  ∀ s : State, s.fsm = .emit →
    (step s = .refused .monoGeometry ↔
      (s.pendingFmt = 4 ∧ s.width % 8 ≠ 0) ∨ (s.pendingFmt = 5 ∧ s.height % 8 ≠ 0))

/-- R88: requests 1 and 2 cause the same snapshot; only PENDING_FMT, where a failed write leaves it,
may differ. -/
def Obligations.SynonymsGiveTheSameSnapshot : Prop :=
  ∀ s t : State, step { s with fsm := .emit, pendingFmt := 1 } = .next t →
    ∃ u, step { s with fsm := .emit, pendingFmt := 2 } = .next u ∧ { u with pendingFmt := t.pendingFmt } = t

/-- R26, R150: every nonzero DITHER_MODE gives the same snapshot; only the stored byte differs.
The spec marks R150 as derived from other rules. -/
def Obligations.NonzeroModesAgree : Prop :=
  ∀ (s t : State) (m n : Byte), m ≠ 0 → n ≠ 0 → step { s with fsm := .emit, ditherMode := m } = .next t →
    ∃ u, step { s with fsm := .emit, ditherMode := n } = .next u ∧ { u with ditherMode := t.ditherMode } = t

/-- R226, R30: a step from EMIT replaces the whole of RASTER with the words of one capture. -/
def Obligations.EveryWordIsCapturedAfresh : Prop :=
  ∀ s t : State, s.fsm = .emit → step s = .next t →
    t.raster.length = s.stride * s.height ∧ ∀ k : Nat, k < s.stride * s.height → t.raster[k]? = some (s.capturedWord k)

/-! ## The whole machine -/

/-- R40: what reset leaves, for every RESET_T, every choice of the parameters and every environment.
The model's own reset values (entries 2, 3, 4, 15) are no part of it. -/
def Obligations.ResetLeavesTheListedValues : Prop :=
  ∀ (t : Byte) (p : Params) (e : Environment),
    (State.resetWith t p e).thrR = BitVec.ofNat 16 (t.toNat / 8) ∧
    (State.resetWith t p e).thrG = BitVec.ofNat 16 (t.toNat / 4 * 32) ∧
    (State.resetWith t p e).thrB = BitVec.ofNat 16 (t.toNat / 8 * 2048) ∧
    (State.resetWith t p e).ditherMode = 0 ∧ (State.resetWith t p e).pendingFmt = 0 ∧
    (State.resetWith t p e).ibufLen = 0 ∧ (State.resetWith t p e).fsm = .init ∧
    (State.resetWith t p e).status = .running ∧ (State.resetWith t p e).out = []

/-- The invariant holds after reset, for every RESET_T, every IN_CAP ≥ 6 (R8) and every environment. That
the geometry is legal there rests on the model's reset geometry of 0 (entry 2: R40 calls it unspecified), that
RASTER and DBUF have no element on entry 3, the form of the arrays on entry 10, and that the parameters of
`State.reset` meet R8 on entry 4. -/
def Obligations.InvariantHoldsAtReset : Prop :=
  (∀ (t : Byte) (p : Params) (e : Environment), 6 ≤ p.inCap → (State.resetWith t p e).Inv) ∧ State.reset.Inv

/-- Every step keeps the invariant: the bounds and sizes of the buffers, the idle AWAIT, the legal values
of PENDING_FMT, the derived thresholds, the legal geometry, STATUS as FSM says.
The canonical form of the arrays is the model's (entry 10), and
so are their contents before a rule writes them (entry 3). -/
def Obligations.EveryStepKeepsTheInvariant : Prop :=
  ∀ s t : State, s.Inv → step s = .next t → t.Inv

/-- The history holds after reset: OUT is empty (R34, R40), and so is the record of the provider calls (R254),
which is the model's own field with a reset value of the model's choice (entry 15). -/
def Obligations.HistoryHoldsAtReset : Prop :=
  ∀ (t : Byte) (p : Params) (e : Environment), (State.resetWith t p e).History

/-- Every step keeps the history: OUT is the capability packet and then whole packets, with one capture
for each (after a failure, a prefix of such a sequence); initialize is called once and finalize at most once.
The record of the calls is the model's own field (entry 15). -/
def Obligations.EveryStepKeepsTheHistory : Prop :=
  ∀ s t : State, s.Inv → s.History → step s = .next t → t.History

/-- R66: in a state that meets the invariant no step forms an index outside its array, and the only
fault is that of a terminal state.
The spec marks R66 as derived from other rules.
That a terminal state faults is the model's choice (entry 11). -/
def Obligations.NoIndexLeavesItsArray : Prop :=
  ∀ (s : State) (f : Fault), s.Inv → step s = .fault f → f = .halted ∧ s.terminal = true

/-- R34: OUT starts empty and only grows, by a whole packet or, at a failed write, by a proper prefix of
one, and then the engine is FAILED. -/
def Obligations.OutputGrowsByPackets : Prop :=
  (∀ (t : Byte) (p : Params) (e : Environment), (State.resetWith t p e).out = []) ∧
  ∀ s t : State, step s = .next t →
    t.out = s.out ∨ (∃ payload, t.out = s.out ++ frame payload) ∨
      ∃ payload n, n < (frame payload).length ∧ t.out = s.out ++ (frame payload).take n ∧ t.fsm = .failed ∧
        t.status = .exitFail .fWr

/-- R33: in a state that meets the invariant a step is made only while STATUS is RUNNING; STATUS becomes
EXIT_OK only in SHUTDOWN and EXIT_FAIL only in FAILED. -/
def Obligations.StatusSettlesOnce : Prop :=
  (∀ (t : Byte) (p : Params) (e : Environment), (State.resetWith t p e).status = .running) ∧
  ∀ s t : State, s.Inv → step s = .next t →
    s.status = .running ∧ (t.status = .exitOk → t.fsm = .shutdown) ∧ ∀ code, t.status = .exitFail code → t.fsm = .failed

/-- R9, R28, R7: after INIT no step changes a geometry register, and no step changes a parameter. -/
def Obligations.GeometryIsLatchedOnce : Prop :=
  ∀ s t : State, step s = .next t → t.params = s.params ∧ (s.fsm ≠ .init → t.geometry = s.geometry)

/-- R24: the threshold registers are written together and only together, by reset and by SET_THRESHOLD,
from one value. -/
def Obligations.ThresholdsAreWrittenTogether : Prop :=
  (∀ (v : Byte) (p : Params) (e : Environment), (State.resetWith v p e).thrR = BitVec.ofNat 16 (v.toNat / 8) ∧
    (State.resetWith v p e).thrG = BitVec.ofNat 16 (v.toNat / 4 * 32) ∧
    (State.resetWith v p e).thrB = BitVec.ofNat 16 (v.toNat / 8 * 2048)) ∧
  ∀ s t : State, step s = .next t →
    (t.thrR = s.thrR ∧ t.thrG = s.thrG ∧ t.thrB = s.thrB) ∨
      ∃ (v : Byte) (extra rest : List Byte), s.fsm = .drain ∧ decode s.ibuf = .ok (.setThreshold (v :: extra), rest) ∧
        t.thrR = BitVec.ofNat 16 (v.toNat / 8) ∧ t.thrG = BitVec.ofNat 16 (v.toNat / 4 * 32) ∧
        t.thrB = BitVec.ofNat 16 (v.toNat / 8 * 2048)

/-- R71, R232: outside AWAIT no step takes a host event, and IBUF loses at most bytes from its front. -/
def Obligations.OnlyAwaitTakesInput : Prop :=
  ∀ s t : State, s.fsm ≠ .await → step s = .next t → t.env.events = s.env.events ∧ t.ibuf <:+ s.ibuf

/-- R30, R31, R63, R66: INIT gives RASTER and DBUF their sizes where it latches the geometry, with contents no
rule has written (entry 3); they are written in EMIT alone, and DBUF there only where DITHER_MODE ≠ 0.
That DBUF keeps its entries in an undithered snapshot is the model's choice (entry 19). -/
def Obligations.BuffersAreWrittenInEmitAlone : Prop :=
  ∀ s t : State, step s = .next t →
    (s.fsm ≠ .init → s.fsm ≠ .emit → t.raster = s.raster ∧ t.dbuf = s.dbuf) ∧
    (s.fsm = .init → s.initAnswer = .error → t.raster = s.raster ∧ t.dbuf = s.dbuf) ∧
    (s.fsm = .init → s.initAnswer ≠ .error →
      t.raster.length = t.stride * t.height ∧ t.dbuf.length = t.width * t.height) ∧
    (s.fsm = .emit → s.ditherMode = 0 → t.dbuf = s.dbuf) ∧
    (s.fsm = .emit → s.ditherMode ≠ 0 → ditherEntries (capture s) = .ok t.dbuf)
end

