-- ==== Sys2Proof/Laws/State.lean ====
section
/-! SUPPORT. One lemma per field per named update of State, each true by rfl, so that no proof unfolds
a record update. -/

namespace Sys2Proof.Machine

/-! ## appendChunk -/

@[simp] theorem appendChunk_thrR (c : List Byte) (s : State) : (appendChunk c s).thrR = s.thrR := rfl
@[simp] theorem appendChunk_thrG (c : List Byte) (s : State) : (appendChunk c s).thrG = s.thrG := rfl
@[simp] theorem appendChunk_thrB (c : List Byte) (s : State) : (appendChunk c s).thrB = s.thrB := rfl
@[simp] theorem appendChunk_ditherMode (c : List Byte) (s : State) : (appendChunk c s).ditherMode = s.ditherMode := rfl
@[simp] theorem appendChunk_pendingFmt (c : List Byte) (s : State) : (appendChunk c s).pendingFmt = s.pendingFmt := rfl
@[simp] theorem appendChunk_geometry (c : List Byte) (s : State) : (appendChunk c s).geometry = s.geometry := rfl
@[simp] theorem appendChunk_ibuf (c : List Byte) (s : State) : (appendChunk c s).ibuf = s.ibuf ++ c := rfl
@[simp] theorem appendChunk_raster (c : List Byte) (s : State) : (appendChunk c s).raster = s.raster := rfl
@[simp] theorem appendChunk_dbuf (c : List Byte) (s : State) : (appendChunk c s).dbuf = s.dbuf := rfl
@[simp] theorem appendChunk_fsm (c : List Byte) (s : State) : (appendChunk c s).fsm = s.fsm := rfl
@[simp] theorem appendChunk_status (c : List Byte) (s : State) : (appendChunk c s).status = s.status := rfl
@[simp] theorem appendChunk_out (c : List Byte) (s : State) : (appendChunk c s).out = s.out := rfl
@[simp] theorem appendChunk_params (c : List Byte) (s : State) : (appendChunk c s).params = s.params := rfl
@[simp] theorem appendChunk_calls (c : List Byte) (s : State) : (appendChunk c s).calls = s.calls := rfl
@[simp] theorem appendChunk_env (c : List Byte) (s : State) : (appendChunk c s).env = s.env := rfl

/-! ## consume -/

@[simp] theorem consume_thrR (n : Nat) (s : State) : (consume n s).thrR = s.thrR := rfl
@[simp] theorem consume_thrG (n : Nat) (s : State) : (consume n s).thrG = s.thrG := rfl
@[simp] theorem consume_thrB (n : Nat) (s : State) : (consume n s).thrB = s.thrB := rfl
@[simp] theorem consume_ditherMode (n : Nat) (s : State) : (consume n s).ditherMode = s.ditherMode := rfl
@[simp] theorem consume_pendingFmt (n : Nat) (s : State) : (consume n s).pendingFmt = s.pendingFmt := rfl
@[simp] theorem consume_geometry (n : Nat) (s : State) : (consume n s).geometry = s.geometry := rfl
@[simp] theorem consume_ibuf (n : Nat) (s : State) : (consume n s).ibuf = s.ibuf.drop n := rfl
@[simp] theorem consume_raster (n : Nat) (s : State) : (consume n s).raster = s.raster := rfl
@[simp] theorem consume_dbuf (n : Nat) (s : State) : (consume n s).dbuf = s.dbuf := rfl
@[simp] theorem consume_fsm (n : Nat) (s : State) : (consume n s).fsm = s.fsm := rfl
@[simp] theorem consume_status (n : Nat) (s : State) : (consume n s).status = s.status := rfl
@[simp] theorem consume_out (n : Nat) (s : State) : (consume n s).out = s.out := rfl
@[simp] theorem consume_params (n : Nat) (s : State) : (consume n s).params = s.params := rfl
@[simp] theorem consume_calls (n : Nat) (s : State) : (consume n s).calls = s.calls := rfl
@[simp] theorem consume_env (n : Nat) (s : State) : (consume n s).env = s.env := rfl

/-! ## discardInput -/

@[simp] theorem discardInput_thrR (s : State) : (discardInput s).thrR = s.thrR := rfl
@[simp] theorem discardInput_thrG (s : State) : (discardInput s).thrG = s.thrG := rfl
@[simp] theorem discardInput_thrB (s : State) : (discardInput s).thrB = s.thrB := rfl
@[simp] theorem discardInput_ditherMode (s : State) : (discardInput s).ditherMode = s.ditherMode := rfl
@[simp] theorem discardInput_pendingFmt (s : State) : (discardInput s).pendingFmt = s.pendingFmt := rfl
@[simp] theorem discardInput_geometry (s : State) : (discardInput s).geometry = s.geometry := rfl
@[simp] theorem discardInput_ibuf (s : State) : (discardInput s).ibuf = [] := rfl
@[simp] theorem discardInput_raster (s : State) : (discardInput s).raster = s.raster := rfl
@[simp] theorem discardInput_dbuf (s : State) : (discardInput s).dbuf = s.dbuf := rfl
@[simp] theorem discardInput_fsm (s : State) : (discardInput s).fsm = s.fsm := rfl
@[simp] theorem discardInput_status (s : State) : (discardInput s).status = s.status := rfl
@[simp] theorem discardInput_out (s : State) : (discardInput s).out = s.out := rfl
@[simp] theorem discardInput_params (s : State) : (discardInput s).params = s.params := rfl
@[simp] theorem discardInput_calls (s : State) : (discardInput s).calls = s.calls := rfl
@[simp] theorem discardInput_env (s : State) : (discardInput s).env = s.env := rfl

/-! ## writeThresholds -/

@[simp] theorem writeThresholds_thrR (t : Byte) (s : State) : (writeThresholds t s).thrR = thresholdR t := rfl
@[simp] theorem writeThresholds_thrG (t : Byte) (s : State) : (writeThresholds t s).thrG = thresholdG t := rfl
@[simp] theorem writeThresholds_thrB (t : Byte) (s : State) : (writeThresholds t s).thrB = thresholdB t := rfl
@[simp] theorem writeThresholds_ditherMode (t : Byte) (s : State) : (writeThresholds t s).ditherMode = s.ditherMode := rfl
@[simp] theorem writeThresholds_pendingFmt (t : Byte) (s : State) : (writeThresholds t s).pendingFmt = s.pendingFmt := rfl
@[simp] theorem writeThresholds_geometry (t : Byte) (s : State) : (writeThresholds t s).geometry = s.geometry := rfl
@[simp] theorem writeThresholds_ibuf (t : Byte) (s : State) : (writeThresholds t s).ibuf = s.ibuf := rfl
@[simp] theorem writeThresholds_raster (t : Byte) (s : State) : (writeThresholds t s).raster = s.raster := rfl
@[simp] theorem writeThresholds_dbuf (t : Byte) (s : State) : (writeThresholds t s).dbuf = s.dbuf := rfl
@[simp] theorem writeThresholds_fsm (t : Byte) (s : State) : (writeThresholds t s).fsm = s.fsm := rfl
@[simp] theorem writeThresholds_status (t : Byte) (s : State) : (writeThresholds t s).status = s.status := rfl
@[simp] theorem writeThresholds_out (t : Byte) (s : State) : (writeThresholds t s).out = s.out := rfl
@[simp] theorem writeThresholds_params (t : Byte) (s : State) : (writeThresholds t s).params = s.params := rfl
@[simp] theorem writeThresholds_calls (t : Byte) (s : State) : (writeThresholds t s).calls = s.calls := rfl
@[simp] theorem writeThresholds_env (t : Byte) (s : State) : (writeThresholds t s).env = s.env := rfl

/-! ## writeDitherMode -/

@[simp] theorem writeDitherMode_thrR (m : Byte) (s : State) : (writeDitherMode m s).thrR = s.thrR := rfl
@[simp] theorem writeDitherMode_thrG (m : Byte) (s : State) : (writeDitherMode m s).thrG = s.thrG := rfl
@[simp] theorem writeDitherMode_thrB (m : Byte) (s : State) : (writeDitherMode m s).thrB = s.thrB := rfl
@[simp] theorem writeDitherMode_ditherMode (m : Byte) (s : State) : (writeDitherMode m s).ditherMode = m := rfl
@[simp] theorem writeDitherMode_pendingFmt (m : Byte) (s : State) : (writeDitherMode m s).pendingFmt = s.pendingFmt := rfl
@[simp] theorem writeDitherMode_geometry (m : Byte) (s : State) : (writeDitherMode m s).geometry = s.geometry := rfl
@[simp] theorem writeDitherMode_ibuf (m : Byte) (s : State) : (writeDitherMode m s).ibuf = s.ibuf := rfl
@[simp] theorem writeDitherMode_raster (m : Byte) (s : State) : (writeDitherMode m s).raster = s.raster := rfl
@[simp] theorem writeDitherMode_dbuf (m : Byte) (s : State) : (writeDitherMode m s).dbuf = s.dbuf := rfl
@[simp] theorem writeDitherMode_fsm (m : Byte) (s : State) : (writeDitherMode m s).fsm = s.fsm := rfl
@[simp] theorem writeDitherMode_status (m : Byte) (s : State) : (writeDitherMode m s).status = s.status := rfl
@[simp] theorem writeDitherMode_out (m : Byte) (s : State) : (writeDitherMode m s).out = s.out := rfl
@[simp] theorem writeDitherMode_params (m : Byte) (s : State) : (writeDitherMode m s).params = s.params := rfl
@[simp] theorem writeDitherMode_calls (m : Byte) (s : State) : (writeDitherMode m s).calls = s.calls := rfl
@[simp] theorem writeDitherMode_env (m : Byte) (s : State) : (writeDitherMode m s).env = s.env := rfl

/-! ## writePendingFmt -/

@[simp] theorem writePendingFmt_thrR (f : BitVec 3) (s : State) : (writePendingFmt f s).thrR = s.thrR := rfl
@[simp] theorem writePendingFmt_thrG (f : BitVec 3) (s : State) : (writePendingFmt f s).thrG = s.thrG := rfl
@[simp] theorem writePendingFmt_thrB (f : BitVec 3) (s : State) : (writePendingFmt f s).thrB = s.thrB := rfl
@[simp] theorem writePendingFmt_ditherMode (f : BitVec 3) (s : State) : (writePendingFmt f s).ditherMode = s.ditherMode := rfl
@[simp] theorem writePendingFmt_pendingFmt (f : BitVec 3) (s : State) : (writePendingFmt f s).pendingFmt = f := rfl
@[simp] theorem writePendingFmt_geometry (f : BitVec 3) (s : State) : (writePendingFmt f s).geometry = s.geometry := rfl
@[simp] theorem writePendingFmt_ibuf (f : BitVec 3) (s : State) : (writePendingFmt f s).ibuf = s.ibuf := rfl
@[simp] theorem writePendingFmt_raster (f : BitVec 3) (s : State) : (writePendingFmt f s).raster = s.raster := rfl
@[simp] theorem writePendingFmt_dbuf (f : BitVec 3) (s : State) : (writePendingFmt f s).dbuf = s.dbuf := rfl
@[simp] theorem writePendingFmt_fsm (f : BitVec 3) (s : State) : (writePendingFmt f s).fsm = s.fsm := rfl
@[simp] theorem writePendingFmt_status (f : BitVec 3) (s : State) : (writePendingFmt f s).status = s.status := rfl
@[simp] theorem writePendingFmt_out (f : BitVec 3) (s : State) : (writePendingFmt f s).out = s.out := rfl
@[simp] theorem writePendingFmt_params (f : BitVec 3) (s : State) : (writePendingFmt f s).params = s.params := rfl
@[simp] theorem writePendingFmt_calls (f : BitVec 3) (s : State) : (writePendingFmt f s).calls = s.calls := rfl
@[simp] theorem writePendingFmt_env (f : BitVec 3) (s : State) : (writePendingFmt f s).env = s.env := rfl

/-! ## setFsm -/

@[simp] theorem setFsm_thrR (f : Fsm) (s : State) : (setFsm f s).thrR = s.thrR := rfl
@[simp] theorem setFsm_thrG (f : Fsm) (s : State) : (setFsm f s).thrG = s.thrG := rfl
@[simp] theorem setFsm_thrB (f : Fsm) (s : State) : (setFsm f s).thrB = s.thrB := rfl
@[simp] theorem setFsm_ditherMode (f : Fsm) (s : State) : (setFsm f s).ditherMode = s.ditherMode := rfl
@[simp] theorem setFsm_pendingFmt (f : Fsm) (s : State) : (setFsm f s).pendingFmt = s.pendingFmt := rfl
@[simp] theorem setFsm_geometry (f : Fsm) (s : State) : (setFsm f s).geometry = s.geometry := rfl
@[simp] theorem setFsm_ibuf (f : Fsm) (s : State) : (setFsm f s).ibuf = s.ibuf := rfl
@[simp] theorem setFsm_raster (f : Fsm) (s : State) : (setFsm f s).raster = s.raster := rfl
@[simp] theorem setFsm_dbuf (f : Fsm) (s : State) : (setFsm f s).dbuf = s.dbuf := rfl
@[simp] theorem setFsm_fsm (f : Fsm) (s : State) : (setFsm f s).fsm = f := rfl
@[simp] theorem setFsm_status (f : Fsm) (s : State) : (setFsm f s).status = s.status := rfl
@[simp] theorem setFsm_out (f : Fsm) (s : State) : (setFsm f s).out = s.out := rfl
@[simp] theorem setFsm_params (f : Fsm) (s : State) : (setFsm f s).params = s.params := rfl
@[simp] theorem setFsm_calls (f : Fsm) (s : State) : (setFsm f s).calls = s.calls := rfl
@[simp] theorem setFsm_env (f : Fsm) (s : State) : (setFsm f s).env = s.env := rfl

/-! ## writeGeometry -/

@[simp] theorem writeGeometry_thrR (g : Geometry) (s : State) : (writeGeometry g s).thrR = s.thrR := rfl
@[simp] theorem writeGeometry_thrG (g : Geometry) (s : State) : (writeGeometry g s).thrG = s.thrG := rfl
@[simp] theorem writeGeometry_thrB (g : Geometry) (s : State) : (writeGeometry g s).thrB = s.thrB := rfl
@[simp] theorem writeGeometry_ditherMode (g : Geometry) (s : State) : (writeGeometry g s).ditherMode = s.ditherMode := rfl
@[simp] theorem writeGeometry_pendingFmt (g : Geometry) (s : State) : (writeGeometry g s).pendingFmt = s.pendingFmt := rfl
@[simp] theorem writeGeometry_geometry (g : Geometry) (s : State) : (writeGeometry g s).geometry = g := rfl
@[simp] theorem writeGeometry_ibuf (g : Geometry) (s : State) : (writeGeometry g s).ibuf = s.ibuf := rfl
@[simp] theorem writeGeometry_raster (g : Geometry) (s : State) : (writeGeometry g s).raster = s.raster := rfl
@[simp] theorem writeGeometry_dbuf (g : Geometry) (s : State) : (writeGeometry g s).dbuf = s.dbuf := rfl
@[simp] theorem writeGeometry_fsm (g : Geometry) (s : State) : (writeGeometry g s).fsm = s.fsm := rfl
@[simp] theorem writeGeometry_status (g : Geometry) (s : State) : (writeGeometry g s).status = s.status := rfl
@[simp] theorem writeGeometry_out (g : Geometry) (s : State) : (writeGeometry g s).out = s.out := rfl
@[simp] theorem writeGeometry_params (g : Geometry) (s : State) : (writeGeometry g s).params = s.params := rfl
@[simp] theorem writeGeometry_calls (g : Geometry) (s : State) : (writeGeometry g s).calls = s.calls := rfl
@[simp] theorem writeGeometry_env (g : Geometry) (s : State) : (writeGeometry g s).env = s.env := rfl

/-! ## writeRaster -/

@[simp] theorem writeRaster_thrR (r : List Pixel) (s : State) : (writeRaster r s).thrR = s.thrR := rfl
@[simp] theorem writeRaster_thrG (r : List Pixel) (s : State) : (writeRaster r s).thrG = s.thrG := rfl
@[simp] theorem writeRaster_thrB (r : List Pixel) (s : State) : (writeRaster r s).thrB = s.thrB := rfl
@[simp] theorem writeRaster_ditherMode (r : List Pixel) (s : State) : (writeRaster r s).ditherMode = s.ditherMode := rfl
@[simp] theorem writeRaster_pendingFmt (r : List Pixel) (s : State) : (writeRaster r s).pendingFmt = s.pendingFmt := rfl
@[simp] theorem writeRaster_geometry (r : List Pixel) (s : State) : (writeRaster r s).geometry = s.geometry := rfl
@[simp] theorem writeRaster_ibuf (r : List Pixel) (s : State) : (writeRaster r s).ibuf = s.ibuf := rfl
@[simp] theorem writeRaster_raster (r : List Pixel) (s : State) : (writeRaster r s).raster = r := rfl
@[simp] theorem writeRaster_dbuf (r : List Pixel) (s : State) : (writeRaster r s).dbuf = s.dbuf := rfl
@[simp] theorem writeRaster_fsm (r : List Pixel) (s : State) : (writeRaster r s).fsm = s.fsm := rfl
@[simp] theorem writeRaster_status (r : List Pixel) (s : State) : (writeRaster r s).status = s.status := rfl
@[simp] theorem writeRaster_out (r : List Pixel) (s : State) : (writeRaster r s).out = s.out := rfl
@[simp] theorem writeRaster_params (r : List Pixel) (s : State) : (writeRaster r s).params = s.params := rfl
@[simp] theorem writeRaster_calls (r : List Pixel) (s : State) : (writeRaster r s).calls = s.calls := rfl
@[simp] theorem writeRaster_env (r : List Pixel) (s : State) : (writeRaster r s).env = s.env := rfl

/-! ## writeDbuf -/

@[simp] theorem writeDbuf_thrR (d : List Entry) (s : State) : (writeDbuf d s).thrR = s.thrR := rfl
@[simp] theorem writeDbuf_thrG (d : List Entry) (s : State) : (writeDbuf d s).thrG = s.thrG := rfl
@[simp] theorem writeDbuf_thrB (d : List Entry) (s : State) : (writeDbuf d s).thrB = s.thrB := rfl
@[simp] theorem writeDbuf_ditherMode (d : List Entry) (s : State) : (writeDbuf d s).ditherMode = s.ditherMode := rfl
@[simp] theorem writeDbuf_pendingFmt (d : List Entry) (s : State) : (writeDbuf d s).pendingFmt = s.pendingFmt := rfl
@[simp] theorem writeDbuf_geometry (d : List Entry) (s : State) : (writeDbuf d s).geometry = s.geometry := rfl
@[simp] theorem writeDbuf_ibuf (d : List Entry) (s : State) : (writeDbuf d s).ibuf = s.ibuf := rfl
@[simp] theorem writeDbuf_raster (d : List Entry) (s : State) : (writeDbuf d s).raster = s.raster := rfl
@[simp] theorem writeDbuf_dbuf (d : List Entry) (s : State) : (writeDbuf d s).dbuf = d := rfl
@[simp] theorem writeDbuf_fsm (d : List Entry) (s : State) : (writeDbuf d s).fsm = s.fsm := rfl
@[simp] theorem writeDbuf_status (d : List Entry) (s : State) : (writeDbuf d s).status = s.status := rfl
@[simp] theorem writeDbuf_out (d : List Entry) (s : State) : (writeDbuf d s).out = s.out := rfl
@[simp] theorem writeDbuf_params (d : List Entry) (s : State) : (writeDbuf d s).params = s.params := rfl
@[simp] theorem writeDbuf_calls (d : List Entry) (s : State) : (writeDbuf d s).calls = s.calls := rfl
@[simp] theorem writeDbuf_env (d : List Entry) (s : State) : (writeDbuf d s).env = s.env := rfl

/-! ## sizeArrays, latchGeometry -/

@[simp] theorem sizeArrays_thrR (s : State) : (sizeArrays s).thrR = s.thrR := rfl
@[simp] theorem sizeArrays_thrG (s : State) : (sizeArrays s).thrG = s.thrG := rfl
@[simp] theorem sizeArrays_thrB (s : State) : (sizeArrays s).thrB = s.thrB := rfl
@[simp] theorem sizeArrays_ditherMode (s : State) : (sizeArrays s).ditherMode = s.ditherMode := rfl
@[simp] theorem sizeArrays_pendingFmt (s : State) : (sizeArrays s).pendingFmt = s.pendingFmt := rfl
@[simp] theorem sizeArrays_geometry (s : State) : (sizeArrays s).geometry = s.geometry := rfl
@[simp] theorem sizeArrays_ibuf (s : State) : (sizeArrays s).ibuf = s.ibuf := rfl
@[simp] theorem sizeArrays_fsm (s : State) : (sizeArrays s).fsm = s.fsm := rfl
@[simp] theorem sizeArrays_status (s : State) : (sizeArrays s).status = s.status := rfl
@[simp] theorem sizeArrays_out (s : State) : (sizeArrays s).out = s.out := rfl
@[simp] theorem sizeArrays_params (s : State) : (sizeArrays s).params = s.params := rfl
@[simp] theorem sizeArrays_calls (s : State) : (sizeArrays s).calls = s.calls := rfl
@[simp] theorem sizeArrays_env (s : State) : (sizeArrays s).env = s.env := rfl
@[simp] theorem sizeArrays_raster (s : State) :
    (sizeArrays s).raster = (List.range (s.stride * s.height)).map (Config.uncapturedWord s.env.draws) := rfl
@[simp] theorem sizeArrays_dbuf (s : State) :
    (sizeArrays s).dbuf = (List.range (s.width * s.height)).map (Config.undecidedEntry s.env.draws) := rfl
@[simp] theorem latchGeometry_thrR (g : Geometry) (s : State) : (latchGeometry g s).thrR = s.thrR := rfl
@[simp] theorem latchGeometry_thrG (g : Geometry) (s : State) : (latchGeometry g s).thrG = s.thrG := rfl
@[simp] theorem latchGeometry_thrB (g : Geometry) (s : State) : (latchGeometry g s).thrB = s.thrB := rfl
@[simp] theorem latchGeometry_ditherMode (g : Geometry) (s : State) : (latchGeometry g s).ditherMode = s.ditherMode := rfl
@[simp] theorem latchGeometry_pendingFmt (g : Geometry) (s : State) : (latchGeometry g s).pendingFmt = s.pendingFmt := rfl
@[simp] theorem latchGeometry_geometry (g : Geometry) (s : State) : (latchGeometry g s).geometry = g := rfl
@[simp] theorem latchGeometry_ibuf (g : Geometry) (s : State) : (latchGeometry g s).ibuf = s.ibuf := rfl
@[simp] theorem latchGeometry_fsm (g : Geometry) (s : State) : (latchGeometry g s).fsm = s.fsm := rfl
@[simp] theorem latchGeometry_status (g : Geometry) (s : State) : (latchGeometry g s).status = s.status := rfl
@[simp] theorem latchGeometry_out (g : Geometry) (s : State) : (latchGeometry g s).out = s.out := rfl
@[simp] theorem latchGeometry_params (g : Geometry) (s : State) : (latchGeometry g s).params = s.params := rfl
@[simp] theorem latchGeometry_calls (g : Geometry) (s : State) : (latchGeometry g s).calls = s.calls := rfl
@[simp] theorem latchGeometry_env (g : Geometry) (s : State) : (latchGeometry g s).env = s.env := rfl

/-! ## appendOut -/

@[simp] theorem appendOut_thrR (bytes : List Byte) (s : State) : (appendOut bytes s).thrR = s.thrR := rfl
@[simp] theorem appendOut_thrG (bytes : List Byte) (s : State) : (appendOut bytes s).thrG = s.thrG := rfl
@[simp] theorem appendOut_thrB (bytes : List Byte) (s : State) : (appendOut bytes s).thrB = s.thrB := rfl
@[simp] theorem appendOut_ditherMode (bytes : List Byte) (s : State) : (appendOut bytes s).ditherMode = s.ditherMode := rfl
@[simp] theorem appendOut_pendingFmt (bytes : List Byte) (s : State) : (appendOut bytes s).pendingFmt = s.pendingFmt := rfl
@[simp] theorem appendOut_geometry (bytes : List Byte) (s : State) : (appendOut bytes s).geometry = s.geometry := rfl
@[simp] theorem appendOut_ibuf (bytes : List Byte) (s : State) : (appendOut bytes s).ibuf = s.ibuf := rfl
@[simp] theorem appendOut_raster (bytes : List Byte) (s : State) : (appendOut bytes s).raster = s.raster := rfl
@[simp] theorem appendOut_dbuf (bytes : List Byte) (s : State) : (appendOut bytes s).dbuf = s.dbuf := rfl
@[simp] theorem appendOut_fsm (bytes : List Byte) (s : State) : (appendOut bytes s).fsm = s.fsm := rfl
@[simp] theorem appendOut_status (bytes : List Byte) (s : State) : (appendOut bytes s).status = s.status := rfl
@[simp] theorem appendOut_out (bytes : List Byte) (s : State) : (appendOut bytes s).out = s.out ++ bytes := rfl
@[simp] theorem appendOut_params (bytes : List Byte) (s : State) : (appendOut bytes s).params = s.params := rfl
@[simp] theorem appendOut_calls (bytes : List Byte) (s : State) : (appendOut bytes s).calls = s.calls := rfl
@[simp] theorem appendOut_env (bytes : List Byte) (s : State) : (appendOut bytes s).env = s.env := rfl

/-! ## recordCall -/

@[simp] theorem recordCall_thrR (c : ProviderCall) (s : State) : (recordCall c s).thrR = s.thrR := rfl
@[simp] theorem recordCall_thrG (c : ProviderCall) (s : State) : (recordCall c s).thrG = s.thrG := rfl
@[simp] theorem recordCall_thrB (c : ProviderCall) (s : State) : (recordCall c s).thrB = s.thrB := rfl
@[simp] theorem recordCall_ditherMode (c : ProviderCall) (s : State) : (recordCall c s).ditherMode = s.ditherMode := rfl
@[simp] theorem recordCall_pendingFmt (c : ProviderCall) (s : State) : (recordCall c s).pendingFmt = s.pendingFmt := rfl
@[simp] theorem recordCall_geometry (c : ProviderCall) (s : State) : (recordCall c s).geometry = s.geometry := rfl
@[simp] theorem recordCall_ibuf (c : ProviderCall) (s : State) : (recordCall c s).ibuf = s.ibuf := rfl
@[simp] theorem recordCall_raster (c : ProviderCall) (s : State) : (recordCall c s).raster = s.raster := rfl
@[simp] theorem recordCall_dbuf (c : ProviderCall) (s : State) : (recordCall c s).dbuf = s.dbuf := rfl
@[simp] theorem recordCall_fsm (c : ProviderCall) (s : State) : (recordCall c s).fsm = s.fsm := rfl
@[simp] theorem recordCall_status (c : ProviderCall) (s : State) : (recordCall c s).status = s.status := rfl
@[simp] theorem recordCall_out (c : ProviderCall) (s : State) : (recordCall c s).out = s.out := rfl
@[simp] theorem recordCall_params (c : ProviderCall) (s : State) : (recordCall c s).params = s.params := rfl
@[simp] theorem recordCall_calls (c : ProviderCall) (s : State) : (recordCall c s).calls = s.calls ++ [c] := rfl
@[simp] theorem recordCall_env (c : ProviderCall) (s : State) : (recordCall c s).env = s.env := rfl

/-! ## shutDown -/

@[simp] theorem shutDown_thrR (s : State) : (shutDown s).thrR = s.thrR := rfl
@[simp] theorem shutDown_thrG (s : State) : (shutDown s).thrG = s.thrG := rfl
@[simp] theorem shutDown_thrB (s : State) : (shutDown s).thrB = s.thrB := rfl
@[simp] theorem shutDown_ditherMode (s : State) : (shutDown s).ditherMode = s.ditherMode := rfl
@[simp] theorem shutDown_pendingFmt (s : State) : (shutDown s).pendingFmt = s.pendingFmt := rfl
@[simp] theorem shutDown_geometry (s : State) : (shutDown s).geometry = s.geometry := rfl
@[simp] theorem shutDown_ibuf (s : State) : (shutDown s).ibuf = s.ibuf := rfl
@[simp] theorem shutDown_raster (s : State) : (shutDown s).raster = s.raster := rfl
@[simp] theorem shutDown_dbuf (s : State) : (shutDown s).dbuf = s.dbuf := rfl
@[simp] theorem shutDown_fsm (s : State) : (shutDown s).fsm = .shutdown := rfl
@[simp] theorem shutDown_status (s : State) : (shutDown s).status = .exitOk := rfl
@[simp] theorem shutDown_out (s : State) : (shutDown s).out = s.out := rfl
@[simp] theorem shutDown_params (s : State) : (shutDown s).params = s.params := rfl
@[simp] theorem shutDown_calls (s : State) : (shutDown s).calls = s.calls := rfl
@[simp] theorem shutDown_env (s : State) : (shutDown s).env = s.env := rfl

/-! ## takeInitAnswer -/

@[simp] theorem takeInitAnswer_thrR (s : State) : (takeInitAnswer s).thrR = s.thrR := rfl
@[simp] theorem takeInitAnswer_thrG (s : State) : (takeInitAnswer s).thrG = s.thrG := rfl
@[simp] theorem takeInitAnswer_thrB (s : State) : (takeInitAnswer s).thrB = s.thrB := rfl
@[simp] theorem takeInitAnswer_ditherMode (s : State) : (takeInitAnswer s).ditherMode = s.ditherMode := rfl
@[simp] theorem takeInitAnswer_pendingFmt (s : State) : (takeInitAnswer s).pendingFmt = s.pendingFmt := rfl
@[simp] theorem takeInitAnswer_geometry (s : State) : (takeInitAnswer s).geometry = s.geometry := rfl
@[simp] theorem takeInitAnswer_ibuf (s : State) : (takeInitAnswer s).ibuf = s.ibuf := rfl
@[simp] theorem takeInitAnswer_raster (s : State) : (takeInitAnswer s).raster = s.raster := rfl
@[simp] theorem takeInitAnswer_dbuf (s : State) : (takeInitAnswer s).dbuf = s.dbuf := rfl
@[simp] theorem takeInitAnswer_fsm (s : State) : (takeInitAnswer s).fsm = s.fsm := rfl
@[simp] theorem takeInitAnswer_status (s : State) : (takeInitAnswer s).status = s.status := rfl
@[simp] theorem takeInitAnswer_out (s : State) : (takeInitAnswer s).out = s.out := rfl
@[simp] theorem takeInitAnswer_params (s : State) : (takeInitAnswer s).params = s.params := rfl
@[simp] theorem takeInitAnswer_calls (s : State) : (takeInitAnswer s).calls = s.calls := rfl
@[simp] theorem takeInitAnswer_env (s : State) : (takeInitAnswer s).env = { s.env with initAnswers := s.env.initAnswers.tail, draws := s.env.draws + 1 } := rfl

/-! ## takeHostEvent -/

@[simp] theorem takeHostEvent_thrR (s : State) : (takeHostEvent s).thrR = s.thrR := rfl
@[simp] theorem takeHostEvent_thrG (s : State) : (takeHostEvent s).thrG = s.thrG := rfl
@[simp] theorem takeHostEvent_thrB (s : State) : (takeHostEvent s).thrB = s.thrB := rfl
@[simp] theorem takeHostEvent_ditherMode (s : State) : (takeHostEvent s).ditherMode = s.ditherMode := rfl
@[simp] theorem takeHostEvent_pendingFmt (s : State) : (takeHostEvent s).pendingFmt = s.pendingFmt := rfl
@[simp] theorem takeHostEvent_geometry (s : State) : (takeHostEvent s).geometry = s.geometry := rfl
@[simp] theorem takeHostEvent_ibuf (s : State) : (takeHostEvent s).ibuf = s.ibuf := rfl
@[simp] theorem takeHostEvent_raster (s : State) : (takeHostEvent s).raster = s.raster := rfl
@[simp] theorem takeHostEvent_dbuf (s : State) : (takeHostEvent s).dbuf = s.dbuf := rfl
@[simp] theorem takeHostEvent_fsm (s : State) : (takeHostEvent s).fsm = s.fsm := rfl
@[simp] theorem takeHostEvent_status (s : State) : (takeHostEvent s).status = s.status := rfl
@[simp] theorem takeHostEvent_out (s : State) : (takeHostEvent s).out = s.out := rfl
@[simp] theorem takeHostEvent_params (s : State) : (takeHostEvent s).params = s.params := rfl
@[simp] theorem takeHostEvent_calls (s : State) : (takeHostEvent s).calls = s.calls := rfl
@[simp] theorem takeHostEvent_env (s : State) : (takeHostEvent s).env = { s.env with events := s.env.events.tail, draws := s.env.draws + 1 } := rfl

/-! ## takeFrame -/

@[simp] theorem takeFrame_thrR (s : State) : (takeFrame s).thrR = s.thrR := rfl
@[simp] theorem takeFrame_thrG (s : State) : (takeFrame s).thrG = s.thrG := rfl
@[simp] theorem takeFrame_thrB (s : State) : (takeFrame s).thrB = s.thrB := rfl
@[simp] theorem takeFrame_ditherMode (s : State) : (takeFrame s).ditherMode = s.ditherMode := rfl
@[simp] theorem takeFrame_pendingFmt (s : State) : (takeFrame s).pendingFmt = s.pendingFmt := rfl
@[simp] theorem takeFrame_geometry (s : State) : (takeFrame s).geometry = s.geometry := rfl
@[simp] theorem takeFrame_ibuf (s : State) : (takeFrame s).ibuf = s.ibuf := rfl
@[simp] theorem takeFrame_raster (s : State) : (takeFrame s).raster = s.raster := rfl
@[simp] theorem takeFrame_dbuf (s : State) : (takeFrame s).dbuf = s.dbuf := rfl
@[simp] theorem takeFrame_fsm (s : State) : (takeFrame s).fsm = s.fsm := rfl
@[simp] theorem takeFrame_status (s : State) : (takeFrame s).status = s.status := rfl
@[simp] theorem takeFrame_out (s : State) : (takeFrame s).out = s.out := rfl
@[simp] theorem takeFrame_params (s : State) : (takeFrame s).params = s.params := rfl
@[simp] theorem takeFrame_calls (s : State) : (takeFrame s).calls = s.calls := rfl
@[simp] theorem takeFrame_env (s : State) : (takeFrame s).env = { s.env with frames := s.env.frames.tail, draws := s.env.draws + 1 } := rfl

/-! ## takeWriteOutcome -/

@[simp] theorem takeWriteOutcome_thrR (s : State) : (takeWriteOutcome s).thrR = s.thrR := rfl
@[simp] theorem takeWriteOutcome_thrG (s : State) : (takeWriteOutcome s).thrG = s.thrG := rfl
@[simp] theorem takeWriteOutcome_thrB (s : State) : (takeWriteOutcome s).thrB = s.thrB := rfl
@[simp] theorem takeWriteOutcome_ditherMode (s : State) : (takeWriteOutcome s).ditherMode = s.ditherMode := rfl
@[simp] theorem takeWriteOutcome_pendingFmt (s : State) : (takeWriteOutcome s).pendingFmt = s.pendingFmt := rfl
@[simp] theorem takeWriteOutcome_geometry (s : State) : (takeWriteOutcome s).geometry = s.geometry := rfl
@[simp] theorem takeWriteOutcome_ibuf (s : State) : (takeWriteOutcome s).ibuf = s.ibuf := rfl
@[simp] theorem takeWriteOutcome_raster (s : State) : (takeWriteOutcome s).raster = s.raster := rfl
@[simp] theorem takeWriteOutcome_dbuf (s : State) : (takeWriteOutcome s).dbuf = s.dbuf := rfl
@[simp] theorem takeWriteOutcome_fsm (s : State) : (takeWriteOutcome s).fsm = s.fsm := rfl
@[simp] theorem takeWriteOutcome_status (s : State) : (takeWriteOutcome s).status = s.status := rfl
@[simp] theorem takeWriteOutcome_out (s : State) : (takeWriteOutcome s).out = s.out := rfl
@[simp] theorem takeWriteOutcome_params (s : State) : (takeWriteOutcome s).params = s.params := rfl
@[simp] theorem takeWriteOutcome_calls (s : State) : (takeWriteOutcome s).calls = s.calls := rfl
@[simp] theorem takeWriteOutcome_env (s : State) : (takeWriteOutcome s).env = { s.env with writes := s.env.writes.tail, draws := s.env.draws + 1 } := rfl

/-! ## finalizeOnFatal -/

@[simp] theorem finalizeOnFatal_thrR (s : State) : (finalizeOnFatal s).thrR = s.thrR := rfl
@[simp] theorem finalizeOnFatal_thrG (s : State) : (finalizeOnFatal s).thrG = s.thrG := rfl
@[simp] theorem finalizeOnFatal_thrB (s : State) : (finalizeOnFatal s).thrB = s.thrB := rfl
@[simp] theorem finalizeOnFatal_ditherMode (s : State) : (finalizeOnFatal s).ditherMode = s.ditherMode := rfl
@[simp] theorem finalizeOnFatal_pendingFmt (s : State) : (finalizeOnFatal s).pendingFmt = s.pendingFmt := rfl
@[simp] theorem finalizeOnFatal_geometry (s : State) : (finalizeOnFatal s).geometry = s.geometry := rfl
@[simp] theorem finalizeOnFatal_ibuf (s : State) : (finalizeOnFatal s).ibuf = s.ibuf := rfl
@[simp] theorem finalizeOnFatal_raster (s : State) : (finalizeOnFatal s).raster = s.raster := rfl
@[simp] theorem finalizeOnFatal_dbuf (s : State) : (finalizeOnFatal s).dbuf = s.dbuf := rfl
@[simp] theorem finalizeOnFatal_fsm (s : State) : (finalizeOnFatal s).fsm = s.fsm := rfl
@[simp] theorem finalizeOnFatal_status (s : State) : (finalizeOnFatal s).status = s.status := rfl
@[simp] theorem finalizeOnFatal_out (s : State) : (finalizeOnFatal s).out = s.out := rfl
@[simp] theorem finalizeOnFatal_params (s : State) : (finalizeOnFatal s).params = s.params := rfl
@[simp] theorem finalizeOnFatal_calls (s : State) : (finalizeOnFatal s).calls = s.calls ++ (if Config.finalizeOnFatal s.env.draws then [.finalize] else []) := rfl
@[simp] theorem finalizeOnFatal_env (s : State) : (finalizeOnFatal s).env = { s.env with draws := s.env.draws + 1 } := rfl

/-! ## raiseFatal -/

@[simp] theorem raiseFatal_thrR (code : FatalCode) (s : State) : (raiseFatal code s).thrR = s.thrR := rfl
@[simp] theorem raiseFatal_thrG (code : FatalCode) (s : State) : (raiseFatal code s).thrG = s.thrG := rfl
@[simp] theorem raiseFatal_thrB (code : FatalCode) (s : State) : (raiseFatal code s).thrB = s.thrB := rfl
@[simp] theorem raiseFatal_ditherMode (code : FatalCode) (s : State) : (raiseFatal code s).ditherMode = s.ditherMode := rfl
@[simp] theorem raiseFatal_pendingFmt (code : FatalCode) (s : State) : (raiseFatal code s).pendingFmt = s.pendingFmt := rfl
@[simp] theorem raiseFatal_geometry (code : FatalCode) (s : State) : (raiseFatal code s).geometry = s.geometry := rfl
@[simp] theorem raiseFatal_ibuf (code : FatalCode) (s : State) : (raiseFatal code s).ibuf = s.ibuf := rfl
@[simp] theorem raiseFatal_raster (code : FatalCode) (s : State) : (raiseFatal code s).raster = s.raster := rfl
@[simp] theorem raiseFatal_dbuf (code : FatalCode) (s : State) : (raiseFatal code s).dbuf = s.dbuf := rfl
@[simp] theorem raiseFatal_fsm (code : FatalCode) (s : State) : (raiseFatal code s).fsm = .failed := rfl
@[simp] theorem raiseFatal_status (code : FatalCode) (s : State) : (raiseFatal code s).status = .exitFail code := rfl
@[simp] theorem raiseFatal_out (code : FatalCode) (s : State) : (raiseFatal code s).out = s.out := rfl
@[simp] theorem raiseFatal_params (code : FatalCode) (s : State) : (raiseFatal code s).params = s.params := rfl
@[simp] theorem raiseFatal_calls (code : FatalCode) (s : State) : (raiseFatal code s).calls = s.calls ++ (if Config.finalizeOnFatal s.env.draws then [.finalize] else []) := rfl
@[simp] theorem raiseFatal_env (code : FatalCode) (s : State) : (raiseFatal code s).env = { s.env with draws := s.env.draws + 1 } := rfl

/-! ## capture -/

@[simp] theorem capture_thrR (s : State) : (capture s).thrR = s.thrR := rfl
@[simp] theorem capture_thrG (s : State) : (capture s).thrG = s.thrG := rfl
@[simp] theorem capture_thrB (s : State) : (capture s).thrB = s.thrB := rfl
@[simp] theorem capture_ditherMode (s : State) : (capture s).ditherMode = s.ditherMode := rfl
@[simp] theorem capture_pendingFmt (s : State) : (capture s).pendingFmt = s.pendingFmt := rfl
@[simp] theorem capture_geometry (s : State) : (capture s).geometry = s.geometry := rfl
@[simp] theorem capture_ibuf (s : State) : (capture s).ibuf = s.ibuf := rfl
@[simp] theorem capture_raster (s : State) : (capture s).raster = (List.range (s.stride * s.height)).map s.capturedWord := rfl
@[simp] theorem capture_dbuf (s : State) : (capture s).dbuf = s.dbuf := rfl
@[simp] theorem capture_fsm (s : State) : (capture s).fsm = s.fsm := rfl
@[simp] theorem capture_status (s : State) : (capture s).status = s.status := rfl
@[simp] theorem capture_out (s : State) : (capture s).out = s.out := rfl
@[simp] theorem capture_params (s : State) : (capture s).params = s.params := rfl
@[simp] theorem capture_calls (s : State) : (capture s).calls = s.calls ++ [.captureFrame] := rfl
@[simp] theorem capture_env (s : State) : (capture s).env = { s.env with frames := s.env.frames.tail, draws := s.env.draws + 1 } := rfl

/-! ## endSnapshot -/

@[simp] theorem endSnapshot_thrR (s : State) : (endSnapshot s).thrR = s.thrR := rfl
@[simp] theorem endSnapshot_thrG (s : State) : (endSnapshot s).thrG = s.thrG := rfl
@[simp] theorem endSnapshot_thrB (s : State) : (endSnapshot s).thrB = s.thrB := rfl
@[simp] theorem endSnapshot_ditherMode (s : State) : (endSnapshot s).ditherMode = s.ditherMode := rfl
@[simp] theorem endSnapshot_pendingFmt (s : State) : (endSnapshot s).pendingFmt = 0 := rfl
@[simp] theorem endSnapshot_geometry (s : State) : (endSnapshot s).geometry = s.geometry := rfl
@[simp] theorem endSnapshot_ibuf (s : State) : (endSnapshot s).ibuf = s.ibuf := rfl
@[simp] theorem endSnapshot_raster (s : State) : (endSnapshot s).raster = s.raster := rfl
@[simp] theorem endSnapshot_dbuf (s : State) : (endSnapshot s).dbuf = s.dbuf := rfl
@[simp] theorem endSnapshot_fsm (s : State) : (endSnapshot s).fsm = .await := rfl
@[simp] theorem endSnapshot_status (s : State) : (endSnapshot s).status = s.status := rfl
@[simp] theorem endSnapshot_out (s : State) : (endSnapshot s).out = s.out := rfl
@[simp] theorem endSnapshot_params (s : State) : (endSnapshot s).params = s.params := rfl
@[simp] theorem endSnapshot_calls (s : State) : (endSnapshot s).calls = s.calls := rfl
@[simp] theorem endSnapshot_env (s : State) : (endSnapshot s).env = s.env := rfl

/-! ## endDrain -/

@[simp] theorem endDrain_thrR (s : State) : (endDrain s).thrR = s.thrR := rfl
@[simp] theorem endDrain_thrG (s : State) : (endDrain s).thrG = s.thrG := rfl
@[simp] theorem endDrain_thrB (s : State) : (endDrain s).thrB = s.thrB := rfl
@[simp] theorem endDrain_ditherMode (s : State) : (endDrain s).ditherMode = s.ditherMode := rfl
@[simp] theorem endDrain_pendingFmt (s : State) : (endDrain s).pendingFmt = s.pendingFmt := rfl
@[simp] theorem endDrain_geometry (s : State) : (endDrain s).geometry = s.geometry := rfl
@[simp] theorem endDrain_ibuf (s : State) : (endDrain s).ibuf = s.ibuf := rfl
@[simp] theorem endDrain_raster (s : State) : (endDrain s).raster = s.raster := rfl
@[simp] theorem endDrain_dbuf (s : State) : (endDrain s).dbuf = s.dbuf := rfl
@[simp] theorem endDrain_fsm (s : State) : (endDrain s).fsm = if s.snapshotPending then .emit else .await := rfl
@[simp] theorem endDrain_status (s : State) : (endDrain s).status = s.status := rfl
@[simp] theorem endDrain_out (s : State) : (endDrain s).out = s.out := rfl
@[simp] theorem endDrain_params (s : State) : (endDrain s).params = s.params := rfl
@[simp] theorem endDrain_calls (s : State) : (endDrain s).calls = s.calls := rfl
@[simp] theorem endDrain_env (s : State) : (endDrain s).env = s.env := rfl

end Sys2Proof.Machine
end

