-- ==== Sys2Proof/Laws/Ops.lean ====
section
/-! SUPPORT. What each shared operation can do, said once. -/

namespace Sys2Proof.Machine

/-! ## Element access -/

theorem readElement_ok_iff {α : Type} {name : ArrayName} {array : List α} {i : Nat} {a : α} :
    readElement name array i = .ok a ↔ array[i]? = some a := by
  unfold readElement
  cases array[i]? <;> simp

theorem readElement_error_iff {α : Type} {name : ArrayName} {array : List α} {i : Nat} {f : Fault} :
    readElement name array i = .error f ↔ array.length ≤ i ∧ f = .indexOutOfRange name i := by
  unfold readElement
  cases h : array[i]? with
  | none => simp [List.getElem?_eq_none_iff.mp h, eq_comm]
  | some a =>
    obtain ⟨hi, -⟩ := List.getElem?_eq_some_iff.mp h
    simp
    omega

theorem readElement_of_lt {α : Type} (name : ArrayName) {array : List α} {i : Nat} (h : i < array.length) :
    readElement name array i = .ok array[i] := by simp [readElement, h]

theorem writeElement_ok_iff {α : Type} {name : ArrayName} {array array' : List α} {i : Nat} {a : α} :
    writeElement name array i a = .ok array' ↔ i < array.length ∧ array' = array.set i a := by
  unfold writeElement
  split <;> simp_all [eq_comm]

theorem writeElement_length {α : Type} {name : ArrayName} {array array' : List α} {i : Nat} {a : α}
    (h : writeElement name array i a = .ok array') : array'.length = array.length := by
  obtain ⟨-, rfl⟩ := writeElement_ok_iff.mp h
  simp

theorem collect_ok_iff {α : Type} {xs : List (Except Fault α)} {as : List α} :
    collect xs = .ok as ↔ xs = as.map .ok := by
  induction xs generalizing as with
  | nil => cases as <;> simp [collect]
  | cons x xs ih =>
    cases x with
    | error f => cases as <;> simp [collect]
    | ok a =>
      unfold collect
      cases hc : collect xs with
      | error f =>
        cases as with
        | nil => simp
        | cons b bs =>
          simp only [reduceCtorEq, List.map_cons, List.cons.injEq, false_iff, not_and]
          intro _ hx
          simp [ih.mpr hx] at hc
      | ok cs =>
        have hcs := ih.mp hc
        subst hcs
        cases as with
        | nil => simp
        | cons b bs =>
          have := List.map_injective_iff.mpr (fun (x y : α) (h : (Except.ok x : Except Fault α) = .ok y) => Except.ok.inj h)
          simp [this.eq_iff]

theorem collect_length {α : Type} {xs : List (Except Fault α)} {as : List α} (h : collect xs = .ok as) :
    as.length = xs.length := by simp [collect_ok_iff.mp h]

/-- Accesses that all answer are collected to their answers. -/
theorem collect_map_of_forall {ι α : Type} (is : List ι) (f : ι → Except Fault α) (g : ι → α)
    (h : ∀ i ∈ is, f i = .ok (g i)) : collect (is.map f) = .ok (is.map g) := by
  rw [collect_ok_iff, List.map_map]
  exact List.map_congr_left fun i hi => h i hi

theorem rowMajor_length (w h : Nat) : (rowMajor w h).length = w * h := by
  simp [rowMajor, List.length_flatMap, Nat.mul_comm]

theorem mem_rowMajor {w h : Nat} {pos : Nat × Nat} : pos ∈ rowMajor w h ↔ pos.1 < w ∧ pos.2 < h := by
  obtain ⟨x, y⟩ := pos
  simp only [rowMajor, List.mem_flatMap, List.mem_range, List.mem_map, Prod.mk.injEq]
  constructor
  · rintro ⟨y', hy, x', hx, rfl, rfl⟩
    exact ⟨hx, hy⟩
  · rintro ⟨hx, hy⟩
    exact ⟨y, hy, x, hx, rfl, rfl⟩

theorem logicalPixels_length {s : State} {pixels : List Pixel} (h : s.logicalPixels = .ok pixels) :
    pixels.length = s.width * s.height := by
  rw [State.logicalPixels] at h
  simpa [rowMajor_length] using collect_length h

/-- An element of a row-major array with room for it (R50, R54, R66). -/
theorem index_lt {w h x y stride : Nat} (hx : x < w) (hs : w ≤ stride) (hy : y < h) : y * stride + x < stride * h := by
  have : (y + 1) * stride ≤ h * stride := Nat.mul_le_mul_right _ hy
  rw [Nat.mul_comm stride h]
  rw [Nat.add_mul] at this
  omega

/-! ## Operands and the meanings' shared operations -/

@[simp] theorem withArg0_nil (effect : Byte → State → State) (s : State) : withArg0 [] effect s = s := rfl

@[simp] theorem withArg0_cons (a : Byte) (rest : List Byte) (effect : Byte → State → State) (s : State) :
    withArg0 (a :: rest) effect s = effect a s := rfl

theorem withArg0_cases (args : List Byte) (effect : Byte → State → State) (s : State) :
    (args = [] ∧ withArg0 args effect s = s) ∨ ∃ a rest, args = a :: rest ∧ withArg0 args effect s = effect a s := by
  cases args with
  | nil => exact .inl ⟨rfl, rfl⟩
  | cons a rest => exact .inr ⟨a, rest, rfl, rfl⟩

theorem request_eq (op : BitVec 3) (s : State) : request op s = .next (writePendingFmt op s) := rfl

theorem noEffect_eq (s : State) : noEffect s = .next s := rfl

/-! ## Output and fatal conditions -/

/-- The two ends of a packet write (R201). -/
theorem emitPacket_cases (packet : List Byte) (k : State → State) (s : State) :
    (s.writeOutcome = .accepted ∧ emitPacket packet k s = k (appendOut packet (takeWriteOutcome s))) ∨
    ∃ n, s.writeOutcome = .failed n ∧
      emitPacket packet k s =
        raiseFatal .fWr (appendOut (packet.take (min n (packet.length - 1))) (takeWriteOutcome s)) := by
  unfold emitPacket
  cases h : s.writeOutcome with
  | accepted => exact .inl ⟨rfl, rfl⟩
  | failed n => exact .inr ⟨n, rfl, rfl⟩

@[simp] theorem capture_raster_length (s : State) : (capture s).raster.length = s.stride * s.height := by simp

/-- RASTER has S·H words once the geometry is latched. -/
theorem latchGeometry_raster_length (g : Geometry) (s : State) :
    (latchGeometry g s).raster.length = (latchGeometry g s).stride * (latchGeometry g s).height := by
  simp [latchGeometry, State.stride, State.height]

/-- DBUF has W·H entries once the geometry is latched. -/
theorem latchGeometry_dbuf_length (g : Geometry) (s : State) :
    (latchGeometry g s).dbuf.length = (latchGeometry g s).width * (latchGeometry g s).height := by
  simp [latchGeometry, State.width, State.height]

@[simp] theorem be32_length (n : Nat) : (be32 n).length = 4 := rfl
@[simp] theorem le16_length (p : Pixel) : (le16 p).length = 2 := rfl
@[simp] theorem le32_length (v : Word32) : (le32 v).length = 4 := rfl

@[simp] theorem frame_length (payload : List Byte) : (frame payload).length = 4 + payload.length := by simp [frame]

@[simp] theorem capability_length (g : Geometry) : (capability g).length = 36 := by simp [capability]

end Sys2Proof.Machine
end

