-- ==== Sys2Proof/Laws/Dither.lean ====
section
/-! SUPPORT. What the dithering engine's operations can do: sizes are kept, and an access within the
arrays never faults. -/

namespace Sys2Proof.Machine

theorem readEntry_ok_iff {d : List Entry} {i : Nat} {v : Int} :
    readEntry d i = .ok v ↔ ∃ e, d[i]? = some e ∧ v = e.toInt := by
  unfold readEntry
  cases h : readElement .dbuf d i with
  | error f =>
    have hn := (readElement_error_iff.mp h).1
    simp [List.getElem?_eq_none hn]
  | ok e => simp [readElement_ok_iff.mp h, eq_comm]

theorem writeEntry_ok_iff {d d' : List Entry} {i : Nat} {v : Int} :
    writeEntry d i v = .ok d' ↔ i < d.length ∧ d' = d.set i (BitVec.ofInt 16 v) := writeElement_ok_iff

/-- A target inside the raster is inside DBUF (R66, R148). -/
theorem target_lt {w h : Nat} {tx ty : Int} (hx : 0 ≤ tx ∧ tx < w) (hy : 0 ≤ ty ∧ ty < h) :
    ty.toNat * w + tx.toNat < w * h :=
  index_lt (by omega) (Nat.le_refl w) (by omega)

/-- AddIfInside answers, and either changes nothing or adds q to the one entry of its target (R148, R149). -/
theorem addIfInside_cases {w h : Nat} {d : List Entry} (tx ty q : Int) (hd : d.length = w * h) :
    (¬ (0 ≤ tx ∧ tx < w ∧ 0 ≤ ty ∧ ty < h) ∧ addIfInside w h tx ty q d = .ok d) ∨
    ((0 ≤ tx ∧ tx < w ∧ 0 ≤ ty ∧ ty < h) ∧ ∃ e, d[ty.toNat * w + tx.toNat]? = some e ∧
      addIfInside w h tx ty q d = .ok (d.set (ty.toNat * w + tx.toNat) (BitVec.ofInt 16 (e.toInt + q)))) := by
  unfold addIfInside
  split
  · rename_i hin
    have hlt : ty.toNat * w + tx.toNat < d.length := hd ▸ target_lt ⟨hin.1, hin.2.1⟩ ⟨hin.2.2.1, hin.2.2.2⟩
    refine .inr ⟨hin, d[ty.toNat * w + tx.toNat], by simp [hlt], ?_⟩
    simp [readEntry, readElement_of_lt _ hlt, writeEntry, writeElement, hlt]
  · rename_i hout
    exact .inl ⟨hout, rfl⟩

/-- AddIfInside answers an array of the same size. -/
theorem addIfInside_ok {w h : Nat} {d : List Entry} (tx ty q : Int) (hd : d.length = w * h) :
    ∃ d', addIfInside w h tx ty q d = .ok d' ∧ d'.length = w * h := by
  rcases addIfInside_cases tx ty q hd with ⟨-, h1⟩ | ⟨-, e, -, h1⟩
  · exact ⟨d, h1, hd⟩
  · exact ⟨_, h1, by simpa using hd⟩

/-- The error of a decision (R146). -/
def decisionError (t6 : Nat) (acc : Int) : Int := acc - (if acc > (t6 : Int) then 63 else 0)

/-- A pixel's decision and its four shares, one after the other (R146 to R148). -/
theorem ditherPixel_eq {w h t6 : Nat} {d : List Entry} {x y : Nat} {e : Entry} (he : d[y * w + x]? = some e) :
    ditherPixel w h t6 d (x, y) =
      (let q := shares (decisionError t6 e.toInt)
       (addIfInside w h (x + direction y) y q.1
          (d.set (y * w + x) (BitVec.ofInt 16 (if e.toInt > (t6 : Int) then 1 else 0)))).bind fun d1 =>
       (addIfInside w h (x - direction y) (y + 1) q.2.1 d1).bind fun d2 =>
       (addIfInside w h x (y + 1) q.2.2.1 d2).bind fun d3 =>
        addIfInside w h (x + direction y) (y + 1) q.2.2.2 d3) := by
  have hlt : y * w + x < d.length := (List.getElem?_eq_some_iff.mp he).1
  have hr : readEntry d (y * w + x) = .ok e.toInt := readEntry_ok_iff.mpr ⟨e, he, rfl⟩
  have hw : ∀ v, writeEntry d (y * w + x) v = .ok (d.set (y * w + x) (BitVec.ofInt 16 v)) :=
    fun v => writeEntry_ok_iff.mpr ⟨hlt, rfl⟩
  simp only [ditherPixel, hr, hw, bind, Except.bind, decisionError, decide_eq_true_eq]

/-- A pixel inside the raster is decided without a fault, and DBUF keeps its size (R66). -/
theorem ditherPixel_ok {w h t6 : Nat} {d : List Entry} {x y : Nat} (hd : d.length = w * h) (hx : x < w) (hy : y < h) :
    ∃ d', ditherPixel w h t6 d (x, y) = .ok d' ∧ d'.length = w * h := by
  have hlt : y * w + x < d.length := hd ▸ index_lt hx (Nat.le_refl w) hy
  rw [ditherPixel_eq (e := d[y * w + x]) (by simp [hlt])]
  obtain ⟨d1, h1, l1⟩ := addIfInside_ok (w := w) (h := h)
    (d := d.set (y * w + x) (BitVec.ofInt 16 (if d[y * w + x].toInt > (t6 : Int) then 1 else 0)))
    (x + direction y) y (shares (decisionError t6 d[y * w + x].toInt)).1 (by simpa using hd)
  obtain ⟨d2, h2, l2⟩ := addIfInside_ok (x - direction y) (y + 1)
    (shares (decisionError t6 d[y * w + x].toInt)).2.1 l1
  obtain ⟨d3, h3, l3⟩ := addIfInside_ok x (y + 1) (shares (decisionError t6 d[y * w + x].toInt)).2.2.1 l2
  obtain ⟨d4, h4, l4⟩ := addIfInside_ok (x + direction y) (y + 1)
    (shares (decisionError t6 d[y * w + x].toInt)).2.2.2 l3
  exact ⟨d4, by simp only [h1, h2, h3, h4, Except.bind], l4⟩

theorem mem_scanRow {w y x : Nat} : x ∈ scanRow w y ↔ x < w := by
  unfold scanRow
  split <;> simp

theorem mem_scan {w h : Nat} {pos : Nat × Nat} : pos ∈ scan w h ↔ pos.1 < w ∧ pos.2 < h := by
  obtain ⟨x, y⟩ := pos
  simp only [scan, List.mem_flatMap, List.mem_range, List.mem_map, Prod.mk.injEq]
  constructor
  · rintro ⟨y', hy, x', hx, rfl, rfl⟩
    exact ⟨mem_scanRow.mp hx, hy⟩
  · rintro ⟨hx, hy⟩
    exact ⟨y, hy, x, mem_scanRow.mpr hx, rfl, rfl⟩

/-- Any positions inside the raster are decided without a fault, and DBUF keeps its size. -/
theorem foldlM_ditherPixel_ok {w h t6 : Nat} (ps : List (Nat × Nat)) {d : List Entry} (hd : d.length = w * h)
    (hps : ∀ pos ∈ ps, pos.1 < w ∧ pos.2 < h) :
    ∃ d', ps.foldlM (ditherPixel w h t6) d = .ok d' ∧ d'.length = w * h := by
  induction ps generalizing d with
  | nil => exact ⟨d, rfl, hd⟩
  | cons pos ps ih =>
    obtain ⟨hx, hy⟩ := hps pos (by simp)
    obtain ⟨d1, h1, l1⟩ := ditherPixel_ok (t6 := t6) hd hx hy
    obtain ⟨d', h2, l2⟩ := ih l1 fun q hq => hps q (by simp [hq])
    exact ⟨d', by rw [List.foldlM_cons, h1]; exact h2, l2⟩

/-- The decisions fill DBUF: W·H entries (R140, R150). -/
theorem ditherEntries_length {s : State} {d : List Entry} (h : ditherEntries s = .ok d) :
    d.length = s.width * s.height := by
  unfold ditherEntries initialEntries at h
  cases hp : s.logicalPixels with
  | error f => simp [hp] at h
  | ok pixels =>
    simp only [hp] at h
    obtain ⟨d', h1, l1⟩ := foldlM_ditherPixel_ok (t6 := threshold6 s.thrG) (scan s.width s.height)
      (d := pixels.map fun p => BitVec.ofNat 16 (intensity p)) (w := s.width) (h := s.height)
      (by simpa using logicalPixels_length hp) fun pos hpos => mem_scan.mp hpos
    rw [h1] at h
    exact Except.ok.inj h ▸ l1

/-- `Dither()` writes DBUF alone (R149). -/
theorem dither_ok {s t : State} (h : dither s = .ok t) : ∃ d, ditherEntries s = .ok d ∧ t = writeDbuf d s := by
  unfold dither at h
  cases hd : ditherEntries s with
  | error f => simp [hd] at h
  | ok d =>
    simp only [hd, Except.ok.injEq] at h
    exact ⟨d, rfl, h.symm⟩

end Sys2Proof.Machine
end

