-- ==== Sys2Proof/Laws/Parser.lean ====
section
/-! SUPPORT. What the decoder, the parser's checks and Execute can do, said once. -/

namespace Sys2Proof

theorem header_ok_iff {bytes : List Byte} {len : Byte} :
    header bytes = .ok len ↔ ∃ rest, bytes = 0 :: 0 :: 0 :: len :: rest := by
  match bytes with
  | [] => simp [header]
  | [_] => simp [header]
  | [_, _] => simp [header]
  | [_, _, _] => simp [header]
  | z0 :: z1 :: z2 :: l :: rest =>
    simp only [header]
    split
    · rename_i h
      obtain ⟨rfl, rfl, rfl⟩ := h
      simp
    · rename_i h
      simp
      grind

theorem header_short_iff {bytes : List Byte} : header bytes = .error .shortHeader ↔ bytes.length < 4 := by
  match bytes with
  | [] => simp [header]
  | [_] => simp [header]
  | [_, _] => simp [header]
  | [_, _, _] => simp [header]
  | z0 :: z1 :: z2 :: l :: rest =>
    simp only [header]
    split <;> simp

theorem header_ne_incomplete (bytes : List Byte) : header bytes ≠ .error .incomplete := by
  match bytes with
  | [] => simp [header]
  | [_] => simp [header]
  | [_, _] => simp [header]
  | [_, _, _] => simp [header]
  | z0 :: z1 :: z2 :: l :: rest =>
    simp only [header]
    split <;> simp

/-- When the decoder answers a command, and which (R82). -/
theorem decode_ok_iff {bytes : List Byte} {i : Instr} {rest : List Byte} :
    decode bytes = .ok (i, rest) ↔
      ∃ (len : Byte) (body : List Byte), bytes = 0 :: 0 :: 0 :: len :: (body ++ rest) ∧ body.length = len.toNat ∧
        i = decodeBody body := by
  constructor
  · intro h
    unfold decode at h
    cases hh : header bytes with
    | error r => simp [hh] at h
    | ok len =>
      obtain ⟨tail, rfl⟩ := header_ok_iff.mp hh
      simp only [hh, List.drop_succ_cons, List.drop_zero] at h
      split at h
      · cases h
      · rename_i hlen
        simp only [Except.ok.injEq, Prod.mk.injEq] at h
        obtain ⟨rfl, rfl⟩ := h
        exact ⟨len, tail.take len.toNat, by simp, by simp; omega, rfl⟩
  · rintro ⟨len, body, rfl, hlen, rfl⟩
    simp [decode, header, ← hlen]

end Sys2Proof

namespace Sys2Proof.Machine

/-- The parser finds a command exactly where the decoder does and it fits IN_CAP (R110, R246). -/
theorem fetch_command_iff {cap : Nat} {ibuf : List Byte} {i : Instr} {n : Nat} :
    fetch cap ibuf = .command i n ↔
      ∃ (len : Byte) (rest : List Byte), header ibuf = .ok len ∧ decode ibuf = .ok (i, rest) ∧ n = 4 + len.toNat ∧ n ≤ cap := by
  unfold fetch
  cases hh : header ibuf with
  | error r => cases r <;> simp
  | ok len =>
    simp only [Except.ok.injEq]
    split
    · rename_i hc
      simp only [reduceCtorEq, false_iff, not_exists, not_and]
      rintro len' rest rfl - rfl
      omega
    · rename_i hc
      cases hd : decode ibuf with
      | error r => simp
      | ok ir =>
        obtain ⟨j, rest⟩ := ir
        simp only [Fetched.command.injEq, Except.ok.injEq, Prod.mk.injEq]
        constructor
        · rintro ⟨rfl, rfl⟩
          exact ⟨len, rest, rfl, ⟨rfl, rfl⟩, rfl, by omega⟩
        · rintro ⟨len', rest', rfl, ⟨rfl, rfl⟩, rfl, -⟩
          exact ⟨rfl, rfl⟩

/-- When the parser waits (R246, checks 1 and 4). -/
theorem fetch_wait_iff {cap : Nat} {ibuf : List Byte} :
    fetch cap ibuf = .wait ↔
      ibuf.length < 4 ∨
        ∃ (len : Byte) (tail : List Byte), ibuf = 0 :: 0 :: 0 :: len :: tail ∧ 4 + len.toNat ≤ cap ∧ tail.length < len.toNat := by
  unfold fetch
  cases hh : header ibuf with
  | error r =>
    cases r with
    | shortHeader => simp [header_short_iff.mp hh]
    | incomplete => exact absurd hh (header_ne_incomplete ibuf)
    | illegalHeader =>
      have h1 : ¬ ibuf.length < 4 := fun h => by simp [header_short_iff.mpr h] at hh
      simp only [reduceCtorEq, h1, false_or, false_iff, not_exists, not_and]
      rintro len tail rfl
      simp [header] at hh
  | ok len =>
    obtain ⟨tail, rfl⟩ := header_ok_iff.mp hh
    simp only [decode, hh, List.drop_succ_cons, List.drop_zero]
    by_cases hc : 4 + len.toNat > cap
    · simp [hc]
    · by_cases ht : tail.length < len.toNat
      · simp [hc, ht]
        omega
      · simp [hc, ht]

/-- The two fatal checks (R246, checks 2 and 3). -/
theorem fetch_fatal_cases {cap : Nat} {ibuf : List Byte} {code : FatalCode} (h : fetch cap ibuf = .fatal code) :
    (code = .fHdr ∧ header ibuf = .error .illegalHeader) ∨
      ∃ len, code = .fOvf ∧ header ibuf = .ok len ∧ cap < 4 + len.toNat := by
  unfold fetch at h
  cases hh : header ibuf with
  | error r =>
    cases r with
    | shortHeader => simp [hh] at h
    | incomplete => simp [hh] at h
    | illegalHeader =>
      simp only [hh, Fetched.fatal.injEq] at h
      exact .inl ⟨h.symm, rfl⟩
  | ok len =>
    simp only [hh] at h
    split at h
    · rename_i hc
      simp only [Fetched.fatal.injEq] at h
      exact .inr ⟨len, h.symm, rfl, hc⟩
    · split at h <;> cases h

/-- Execute (R112): what each command can do. It always answers a next state. -/
theorem exec_cases (i : Instr) (s : State) :
    (∃ f, requestedFormat i = some f ∧ exec i s = .next (writePendingFmt f s)) ∨
    (∃ t rest, i = .setThreshold (t :: rest) ∧ exec i s = .next (writeThresholds t s)) ∨
    (∃ m rest, i = .setDither (m :: rest) ∧ exec i s = .next (writeDitherMode m s)) ∨
    (requestedFormat i = none ∧ exec i s = .next s) := by
  cases i with
  | reqRgb24 args => exact .inl ⟨1, rfl, rfl⟩
  | reqRgb24Alt args => exact .inl ⟨2, rfl, rfl⟩
  | reqRgb565 args => exact .inl ⟨3, rfl, rfl⟩
  | reqMono args => exact .inl ⟨4, rfl, rfl⟩
  | reqMonoCol args => exact .inl ⟨5, rfl, rfl⟩
  | setThreshold args =>
    cases args with
    | nil => exact .inr (.inr (.inr ⟨rfl, rfl⟩))
    | cons t rest => exact .inr (.inl ⟨t, rest, rfl, rfl⟩)
  | setDither args =>
    cases args with
    | nil => exact .inr (.inr (.inr ⟨rfl, rfl⟩))
    | cons m rest => exact .inr (.inr (.inl ⟨m, rest, rfl, rfl⟩))
  | hdr0 => exact .inr (.inr (.inr ⟨rfl, rfl⟩))
  | ign00 args => exact .inr (.inr (.inr ⟨rfl, rfl⟩))
  | ign08To0F low args => exact .inr (.inr (.inr ⟨rfl, rfl⟩))
  | ign10To1F low args => exact .inr (.inr (.inr ⟨rfl, rfl⟩))
  | ign20To3F low args => exact .inr (.inr (.inr ⟨rfl, rfl⟩))
  | ign40To7F low args => exact .inr (.inr (.inr ⟨rfl, rfl⟩))
  | ign80ToFF low args => exact .inr (.inr (.inr ⟨rfl, rfl⟩))

end Sys2Proof.Machine
end

