-- ==== Sys2Proof/Laws/Driver.lean ====
section
/-! SUPPORT. What one step can do, said once for each state of FSM: every next state it can answer. -/

namespace Sys2Proof.Machine

/-- The state after the call of `initialize` has been answered. -/
def askedProvider (s : State) : State :=
  takeInitAnswer (recordCall (.initializeProvider s.params.deviceId s.params.reqW s.params.reqH) s)

theorem stepInit_cases {s t : State} (h : stepInit s = .next t) :
    (s.initAnswer = .error ∧ t = raiseFatal .fInit (askedProvider s)) ∨
    ∃ r, s.initAnswer = .ready r ∧ legalRecord r = true ∧
      t = emitPacket (frame (capability (latch r))) (setFsm .await) (latchGeometry (latch r) (askedProvider s)) := by
  unfold stepInit at h
  cases ha : s.initAnswer with
  | error =>
    simp only [ha, Host.Outcome.next.injEq] at h
    exact .inl ⟨rfl, h.symm⟩
  | ready r =>
    simp only [ha] at h
    split at h
    · rename_i hl
      simp only [Host.Outcome.next.injEq] at h
      exact .inr ⟨r, rfl, hl, h.symm⟩
    · cases h

theorem stepAwait_cases {s t : State} (h : stepAwait s = .next t) :
    (s.hostEvent = none ∧ t = takeHostEvent s) ∨
    (∃ c, s.hostEvent = some (.chunk c) ∧ legalChunk c s = true ∧ t = setFsm .drain (appendChunk c (takeHostEvent s))) ∨
    (s.hostEvent = some .eof ∧ t = shutDown (discardInput (recordCall .finalize (takeHostEvent s)))) ∨
    (s.hostEvent = some .readError ∧ t = raiseFatal .fRd (takeHostEvent s)) := by
  unfold stepAwait at h
  cases he : s.hostEvent with
  | none =>
    simp only [he, Host.Outcome.next.injEq] at h
    exact .inl ⟨rfl, h.symm⟩
  | some e =>
    cases e with
    | chunk c =>
      simp only [he] at h
      split at h
      · rename_i hc
        simp only [Host.Outcome.next.injEq] at h
        exact .inr (.inl ⟨c, rfl, hc, h.symm⟩)
      · cases h
    | eof =>
      simp only [he, Host.Outcome.next.injEq] at h
      exact .inr (.inr (.inl ⟨rfl, h.symm⟩))
    | readError =>
      simp only [he, Host.Outcome.next.injEq] at h
      exact .inr (.inr (.inr ⟨rfl, h.symm⟩))

theorem stepDrain_cases {s t : State} (h : stepDrain s = .next t) :
    (fetch s.params.inCap s.ibuf = .wait ∧ t = endDrain s) ∨
    (∃ code, fetch s.params.inCap s.ibuf = .fatal code ∧ t = raiseFatal code s) ∨
    ∃ i n, fetch s.params.inCap s.ibuf = .command i n ∧ exec i (consume n s) = .next t := by
  unfold stepDrain at h
  cases hf : fetch s.params.inCap s.ibuf with
  | wait =>
    simp only [hf, Host.Outcome.next.injEq] at h
    exact .inl ⟨rfl, h.symm⟩
  | fatal code =>
    simp only [hf, Host.Outcome.next.injEq] at h
    exact .inr (.inl ⟨code, rfl, h.symm⟩)
  | command i n =>
    simp only [hf] at h
    exact .inr (.inr ⟨i, n, rfl, h⟩)

theorem prepareSnapshot_cases {s p : State} (h : prepareSnapshot s = .ok p) :
    (s.dithers = false ∧ p = capture s) ∨
    ∃ d, s.dithers = true ∧ ditherEntries (capture s) = .ok d ∧ p = writeDbuf d (capture s) := by
  unfold prepareSnapshot at h
  cases hd : s.dithers with
  | false =>
    simp only [hd, Bool.false_eq_true, if_false, Except.ok.injEq] at h
    exact .inl ⟨rfl, h.symm⟩
  | true =>
    simp only [hd, if_true] at h
    obtain ⟨d, h1, h2⟩ := dither_ok h
    exact .inr ⟨d, rfl, h1, h2⟩

theorem stepEmit_cases {s t : State} (h : stepEmit s = .next t) :
    ∃ c prepared payload, converterOf s.pendingFmt = some c ∧ c.accepts s = true ∧ prepareSnapshot s = .ok prepared ∧
      c.payload prepared = .ok payload ∧ payload.length < 2 ^ 32 ∧
      t = emitPacket (frame payload) endSnapshot prepared := by
  unfold stepEmit at h
  cases hc : converterOf s.pendingFmt with
  | none => simp [hc] at h
  | some c =>
    simp only [hc] at h
    split at h
    · rename_i ha
      cases hp : prepareSnapshot s with
      | error f => simp [hp] at h
      | ok prepared =>
        simp only [hp] at h
        cases hy : c.payload prepared with
        | error f => simp [hy] at h
        | ok payload =>
          simp only [hy] at h
          split at h
          · rename_i hl
            simp only [Host.Outcome.next.injEq] at h
            exact ⟨c, prepared, payload, rfl, ha, rfl, hy, hl, h.symm⟩
          · cases h
    · cases h

/-- One step is the part of the Driver that FSM names (R220). -/
theorem step_cases {s t : State} (h : step s = .next t) :
    (s.fsm = .init ∧ stepInit s = .next t) ∨ (s.fsm = .await ∧ stepAwait s = .next t) ∨
    (s.fsm = .drain ∧ stepDrain s = .next t) ∨ (s.fsm = .emit ∧ stepEmit s = .next t) := by
  unfold step at h
  cases hf : s.fsm <;> simp_all

end Sys2Proof.Machine
end

