-- ==== Sys2Proof/Laws/Memory.lean ====
section
/-! SUPPORT. Every operation on the arrays keeps their canonical form `Memory.wf` (entry 10). -/

namespace Sys2Proof.Machine

/-- The form depends on the arrays, the geometry and IN_CAP alone. -/
theorem Memory.wf_congr {s t : State} (hs : Memory.wf s) (hi : t.ibuf = s.ibuf) (hr : t.raster = s.raster)
    (hd : t.dbuf = s.dbuf) (hg : t.geometry = s.geometry) (hp : t.params = s.params) : Memory.wf t := by
  simpa [Memory.wf, State.ibufLen, State.width, State.height, State.stride, hi, hr, hd, hg, hp] using hs

theorem Memory.wf_resetWith (t : Byte) (p : Params) (e : Environment) : Memory.wf (State.resetWith t p e) := by
  simp [Memory.wf, State.resetWith, State.ibufLen, State.width, State.height, Geometry.reset]

theorem Memory.wf_reset : Memory.wf State.reset := Memory.wf_resetWith _ _ _

theorem Memory.wf_consume {s : State} (n : Nat) (h : Memory.wf s) : Memory.wf (consume n s) := by
  obtain ⟨h1, h2⟩ := h
  refine ⟨?_, h2⟩
  simp only [State.ibufLen, consume_ibuf, consume_params, List.length_drop] at h1 ⊢
  omega

theorem Memory.wf_discardInput {s : State} (h : Memory.wf s) : Memory.wf (discardInput s) := by
  refine ⟨?_, h.2⟩
  simp [State.ibufLen]

theorem Memory.wf_appendChunk {s : State} {c : List Byte} (h : Memory.wf s) (hc : legalChunk c s = true) :
    Memory.wf (appendChunk c s) := by
  refine ⟨?_, h.2⟩
  have h1 := h.1
  simp only [legalChunk, Bool.and_eq_true, decide_eq_true_eq] at hc
  simp only [State.ibufLen, appendChunk_ibuf, appendChunk_params, List.length_append] at h1 hc ⊢
  omega

/-- Latching the geometry brings RASTER and DBUF to their sizes, whatever they were before. -/
theorem Memory.wf_latchGeometry {s : State} (g : Geometry) (h : s.ibufLen ≤ s.params.inCap) :
    Memory.wf (latchGeometry g s) :=
  ⟨h, latchGeometry_raster_length g s, latchGeometry_dbuf_length g s⟩

theorem Memory.wf_capture {s : State} (h : Memory.wf s) : Memory.wf (capture s) :=
  ⟨h.1, capture_raster_length s, h.2.2⟩

theorem Memory.wf_dither {s t : State} (h : Memory.wf s) (hd : dither s = .ok t) : Memory.wf t := by
  obtain ⟨d, h1, rfl⟩ := dither_ok hd
  exact ⟨h.1, h.2.1, ditherEntries_length h1⟩

end Sys2Proof.Machine
end

