-- ==== Sys2Proof/Laws/PerInstr.lean ====
section
/-! SUPPORT. The family EncodeShape: the bytes of every well-formed instruction start with its header
and are 4 + LEN bytes long (R80), one lemma per constructor. -/

namespace Sys2Proof.Laws.EncodeShape

/-- A well-formed instruction's bytes are three zero bytes, LEN, and LEN more bytes (R80). -/
def Statement (i : Instr) : Prop :=
  i.wf = true →
    ∃ body : List Byte, encode i = 0x00 :: 0x00 :: 0x00 :: BitVec.ofNat 8 i.len :: body ∧ body.length = i.len ∧
      (BitVec.ofNat 8 i.len).toNat = i.len

/-- The shape of a command with an opcode. -/
theorem of_opcode {i : Instr} {op : Byte} (ho : i.opcode = some op) (hl : i.len = 1 + i.args.length) : Statement i := by
  intro hw
  simp only [Instr.wf, decide_eq_true_eq] at hw
  refine ⟨op :: i.args, by simp [encode, ho], by simp [hl]; omega, ?_⟩
  simp only [BitVec.toNat_ofNat]
  omega

theorem reqRgb24 (args : List Byte) : Statement (.reqRgb24 args) := of_opcode rfl rfl

theorem reqRgb24Alt (args : List Byte) : Statement (.reqRgb24Alt args) := of_opcode rfl rfl

theorem reqRgb565 (args : List Byte) : Statement (.reqRgb565 args) := of_opcode rfl rfl

theorem reqMono (args : List Byte) : Statement (.reqMono args) := of_opcode rfl rfl

theorem reqMonoCol (args : List Byte) : Statement (.reqMonoCol args) := of_opcode rfl rfl

theorem setThreshold (args : List Byte) : Statement (.setThreshold args) := of_opcode rfl rfl

theorem setDither (args : List Byte) : Statement (.setDither args) := of_opcode rfl rfl

theorem hdr0 : Statement .hdr0 := fun _ => ⟨[], rfl, rfl, rfl⟩

theorem ign00 (args : List Byte) : Statement (.ign00 args) := of_opcode rfl rfl

theorem ign08To0F (low : BitVec 3) (args : List Byte) : Statement (.ign08To0F low args) := of_opcode rfl rfl

theorem ign10To1F (low : BitVec 4) (args : List Byte) : Statement (.ign10To1F low args) := of_opcode rfl rfl

theorem ign20To3F (low : BitVec 5) (args : List Byte) : Statement (.ign20To3F low args) := of_opcode rfl rfl

theorem ign40To7F (low : BitVec 6) (args : List Byte) : Statement (.ign40To7F low args) := of_opcode rfl rfl

theorem ign80ToFF (low : BitVec 7) (args : List Byte) : Statement (.ign80ToFF low args) := of_opcode rfl rfl

end Sys2Proof.Laws.EncodeShape
end

