-- ==== Sys2Proof/Tests/Slice0.lean ====
section
/-! SUPPORT. Small tests. Expected values come from the spec: the encodings of 30_encoding.md R87 and
the vectors of 95_test_vectors.md, cited at each test. -/

namespace Sys2Proof.Tests

open Sys2Proof.Machine

/-! ## Small states -/

/-- The parameters of the vectors of 95_test_vectors.md: IN_CAP = 16. -/
def params16 : Params := ⟨0, 0, 0, 16⟩

/-- "fbdev" and eleven zero bytes (L2.8). -/
def fbdev : Vector Byte 16 := #v[0x66, 0x62, 0x64, 0x65, 0x76, 0, 0, 0, 0, 0, 0, 0, 0, 0, 0, 0]

/-- A state in FSM f with a geometry, an input buffer, and every write accepted once. -/
def small (f : Fsm) (w h stride : Nat) (ibuf : List Byte) : State :=
  { State.resetWith 0x80 params16 { Environment.unplanned with writes := [.accepted] } with
    fsm := f
    ibuf := ibuf
    raster := List.replicate (stride * h) 0xAAAA
    dbuf := List.replicate (w * h) 0x00AA
    geometry := { Geometry.reset with
      capW := BitVec.ofNat 32 w, capH := BitVec.ofNat 32 h, capS := BitVec.ofNat 32 stride, backendName := fbdev } }

/-- The same with a raster in place. -/
def withRaster (w h stride : Nat) (t : Byte) (mode : Byte) (raster : List Pixel) : State :=
  writeDitherMode mode (writeThresholds t (writeRaster raster (small .emit w h stride [])))

/-- The state after a step, or the state itself where the step does not answer one. -/
def after (o : Host.Outcome State Fault Refusal) (s : State) : State :=
  match o with
  | .next t => t
  | .fault _ => s
  | .refused _ => s

/-! ## WellFormed (R80): an argument list that LEN cannot count is refused -/

theorem test_wf_refuses_long_request : (Instr.reqMono (List.replicate 255 0)).wf = false := by decide +kernel
theorem test_wf_refuses_long_ignored : (Instr.ign80ToFF 0 (List.replicate 255 0)).wf = false := by decide +kernel
theorem test_wf_accepts_longest : (Instr.setDither (List.replicate 254 0)).wf = true := by decide +kernel

/-! ## Decoding: words written out from R87 and L2.1 -/

theorem test_decode_reqRgb24 : decode [0x00, 0x00, 0x00, 0x01, 0x01] = .ok (.reqRgb24 [], []) := by decide
theorem test_decode_reqRgb24Alt : decode [0x00, 0x00, 0x00, 0x01, 0x02] = .ok (.reqRgb24Alt [], []) := by decide
theorem test_decode_reqRgb565 : decode [0x00, 0x00, 0x00, 0x02, 0x03, 0x77] = .ok (.reqRgb565 [0x77], []) := by decide
theorem test_decode_reqMono : decode [0x00, 0x00, 0x00, 0x01, 0x04, 0x00] = .ok (.reqMono [], [0x00]) := by decide
theorem test_decode_reqMonoCol : decode [0x00, 0x00, 0x00, 0x01, 0x05] = .ok (.reqMonoCol [], []) := by decide
theorem test_decode_setThreshold :
    decode [0x00, 0x00, 0x00, 0x03, 0x06, 0x80, 0xFF] = .ok (.setThreshold [0x80, 0xFF], []) := by decide
theorem test_decode_setDither : decode [0x00, 0x00, 0x00, 0x02, 0x07, 0x01] = .ok (.setDither [0x01], []) := by decide
theorem test_decode_hdr0 : decode [0x00, 0x00, 0x00, 0x00, 0x07] = .ok (.hdr0, [0x07]) := by decide
theorem test_decode_ign00 : decode [0x00, 0x00, 0x00, 0x01, 0x00] = .ok (.ign00 [], []) := by decide
theorem test_decode_ign08To0F :
    decode [0x00, 0x00, 0x00, 0x03, 0x09, 0xAA, 0xBB] = .ok (.ign08To0F 1 [0xAA, 0xBB], []) := by decide
theorem test_decode_ign10To1F : decode [0x00, 0x00, 0x00, 0x01, 0x1E] = .ok (.ign10To1F 0xE [], []) := by decide
theorem test_decode_ign20To3F : decode [0x00, 0x00, 0x00, 0x01, 0x31] = .ok (.ign20To3F 0x11 [], []) := by decide
theorem test_decode_ign40To7F :
    decode [0x00, 0x00, 0x00, 0x03, 0x55, 0x01, 0x02] = .ok (.ign40To7F 0x15 [0x01, 0x02], []) := by decide
theorem test_decode_ign80ToFF : decode [0x00, 0x00, 0x00, 0x01, 0xFF] = .ok (.ign80ToFF 0x7F [], []) := by decide
theorem test_decode_incomplete : decode [0x00, 0x00, 0x00, 0x02, 0x07] = .error .incomplete := by decide
theorem test_decode_illegal_header : decode [0x00, 0x01, 0x00, 0xFF] = .error .illegalHeader := by decide
theorem test_decode_short_header : decode [0x00, 0x00, 0x01] = .error .shortHeader := by decide

/-- R101: the table word 0x0000000206 is SET_THRESHOLD with LEN = 2; its argument byte lies past the word. -/
theorem test_table_word_setThreshold : decodeTableWord 40 0x0000000206 = some (.setThreshold [0x00]) := by decide
/-- R101: with LEN = 0 byte 4 belongs to the next command, so the word is HDR0. -/
theorem test_table_word_hdr0 : decodeTableWord 40 0x0000000005 = some .hdr0 := by decide

/-- A table word runs as the first instruction after reset. -/
theorem test_reset_runs_table_word :
    (after (step (State.reset.withFetchWord 40 0x0000000105)) State.reset).pendingFmt = 5 := by decide

/-! ## Commands -/

/-- L2.2, t = 0x64. -/
theorem test_setThreshold_100 :
    let t := after (exec (.setThreshold [0x64]) (small .drain 1 1 1 [])) (small .drain 1 1 1 [])
    (t.thrR, t.thrG, t.thrB) = (12, 0x320, 0x6000) := by decide
/-- L2.1 row 5: no argument, no effect. -/
theorem test_setThreshold_no_argument :
    exec (.setThreshold []) (small .drain 1 1 1 []) = .next (small .drain 1 1 1 []) := rfl
/-- L2.3. -/
theorem test_setDither_FF :
    (after (exec (.setDither [0xFF]) (small .drain 1 1 1 [])) (small .drain 1 1 1 [])).ditherMode = 0xFF := by decide

/-! ## The parser (L2.1) -/

/-- Row 11: the header check comes before the capacity check. -/
theorem test_header_before_capacity :
    (after (step (small .drain 1 1 1 [0x00, 0x01, 0x00, 0xFF])) State.reset).status = .exitFail .fHdr := by decide
/-- Row 12: 4 + 13 > 16. -/
theorem test_capacity :
    (after (step (small .drain 1 1 1 [0x00, 0x00, 0x00, 0x0D, 0x09])) State.reset).status = .exitFail .fOvf := by decide
/-- Row 14, both commands in one Drain. -/
theorem test_drain_dither_twice :
    (after (drain (small .drain 1 1 1 [0, 0, 0, 2, 7, 1, 0, 0, 0, 2, 7, 0])) State.reset).ditherMode = 0 := by decide
/-- Row 15: HDR0, then REQ_RGB565, then EMIT. -/
theorem test_drain_hdr0_request :
    let t := after (drain (small .drain 1 1 1 [0, 0, 0, 0, 0, 0, 0, 1, 3])) State.reset
    (t.pendingFmt, t.ibuf, t.fsm) = (3, [], .emit) := by decide
/-- L3.3: the offending bytes stay, the earlier request has been recorded. -/
theorem test_drain_illegal_second_command :
    let t := after (drain (small .drain 2 2 2 [0, 0, 0, 1, 1, 0, 1, 0, 1, 1])) State.reset
    (t.pendingFmt, t.ibuf, t.status, t.out) = (1, [0, 1, 0, 1, 1], .exitFail .fHdr, []) := by decide

/-! ## Comparator and converters (L1.3, L2.4 to L2.6) -/

/-- L2.4, t = 128. -/
theorem test_comparator_128 :
    ([0x0010, 0x0011, 0x0400, 0x0420, 0x8000, 0x8800].map
      (comparatorOn (thresholdR 128) (thresholdG 128) (thresholdB 128))) = [false, true, false, true, false, true] := by
  decide
/-- L2.4, the column v(p). -/
theorem test_intensity : [0x0001, 0x0020, 0xF800, 0x07E0, 0x7BEF].map intensity = [2, 1, 62, 63, 31] := by decide
/-- L2.5. -/
theorem test_direct24 : [0x1234, 0xABCD].flatMap direct24 = [0x10, 0x44, 0xA0, 0xA8, 0x78, 0x68] := by decide
/-- L1.3. -/
theorem test_enc16_stride :
    enc16 (withRaster 2 2 3 0 0 [0x1234, 0xABCD, 0xFFFF, 0xF800, 0x07E0, 0x0000]) =
      .ok [0x34, 0x12, 0xCD, 0xAB, 0x00, 0xF8, 0xE0, 0x07] := by decide
/-- L2.6, third row: t = 124, padding FFFF FFFF. -/
theorem test_encMono_16 :
    encMono (withRaster 16 1 18 124 0 [0x8410, 0, 0, 0x8410, 0, 0, 0x8410, 0, 0, 0x8410, 0, 0, 0x8410, 0, 0, 0x8410,
      0xFFFF, 0xFFFF]) = .ok [0x49, 0x92] := by decide
/-- L2.6, fourth row: two columns of sixteen. -/
theorem test_encMonoCol_16 :
    encMonoCol (withRaster 2 16 3 128 0
      (((List.range 5).flatMap fun _ => [0xF800, 0, 0xAAAA]) ++ ((List.range 7).flatMap fun _ => [0, 0, 0xAAAA]) ++
        ((List.range 4).flatMap fun _ => [0, 0x001F, 0xAAAA]))) = .ok [0x1F, 0x00, 0x00, 0xF0] := by decide

/-! ## Dithering engine (L2.7) -/

/-- The trace of L2.7. -/
theorem test_dither_3x2 : ditherEntries (withRaster 3 2 3 128 1 (List.replicate 6 0x0400)) = .ok [0, 1, 0, 1, 0, 1] := by
  decide
/-- L2.7, 3×3, t = 40. -/
theorem test_dither_3x3 :
    ditherEntries (withRaster 3 3 3 40 1
      [0x0001, 0x0400, 0xFFFF, 0x8000, 0x0000, 0x07E0, 0x0010, 0x0210, 0x4208]) =
      .ok [0, 1, 1, 1, 0, 1, 1, 0, 0] := by decide
/-- L2.7, t = 255. -/
theorem test_dither_threshold_63 : ditherEntries (withRaster 2 1 2 255 1 [0xFFFF, 0xFFFF]) = .ok [0, 1] := by decide

/-! ## Driver (L2.8, L2.9, L3.1) -/

/-- The provider's answer of L3.1. -/
def record31 : ProviderRecord := ⟨fbdev, 0, 720, 480, 2, 2, 2⟩

/-- Reset in an environment that answers initialize. -/
def booting (a : InitAnswer) (w : WriteOutcome) : State :=
  State.resetWith 0 params16 { Environment.unplanned with initAnswers := [a], writes := [w] }

/-- L2.8: the capability packet. -/
theorem test_init_capability :
    let t := after (step (booting (.ready record31) .accepted)) State.reset
    (t.fsm, t.out) = (.await, [0x00, 0x00, 0x00, 0x24, 0x66, 0x62, 0x64, 0x65, 0x76, 0, 0, 0, 0, 0, 0, 0, 0, 0, 0, 0,
      0, 0, 0, 0, 0xD0, 0x02, 0, 0, 0xE0, 0x01, 0, 0, 2, 0, 0, 0, 2, 0, 0, 0]) := by decide
/-- L2.8: DISPLAY_ID −1 is FF FF FF FF. -/
theorem test_latch_negative : le32 (latch { record31 with displayId := -1 }).displayId = [0xFF, 0xFF, 0xFF, 0xFF] := by
  decide
/-- L2.9: initialize fails. -/
theorem test_init_error :
    let t := after (step (booting .error .accepted)) State.reset
    (t.fsm, t.status, t.out) = (.failed, .exitFail .fInit, []) := by decide
/-- R66: after INIT RASTER has S·H words and DBUF W·H entries, before anything has written them. -/
theorem test_init_sizes_arrays :
    let t := after (step (booting (.ready { record31 with captureS := 5 }) .accepted)) State.reset
    (t.raster.length, t.dbuf.length) = (10, 4) := by decide
/-- R8: S < W is no answer. -/
theorem test_illegal_record : legalRecord { record31 with captureS := 1 } = false := by decide
/-- L2.9: a short write of the capability packet. -/
theorem test_init_short_write :
    let t := after (step (booting (.ready record31) (.failed 3))) State.reset
    (t.status, t.out) = (.exitFail .fWr, [0, 0, 0]) := by decide

/-- A state in AWAIT with one event planned, or with nothing arriving. -/
def waiting (e : Option HostEvent) : State :=
  { small .await 1 1 1 [0, 0] with env := { Environment.unplanned with events := [e] } }

/-- L2.1 row 7, second chunk. -/
theorem test_await_chunk :
    let t := after (step (waiting (some (.chunk [0, 1, 4])))) State.reset
    (t.fsm, t.ibuf) = (.drain, [0, 0, 0, 1, 4]) := by decide
/-- D28: EOF discards a partial command. -/
theorem test_await_eof :
    let t := after (step (waiting (some .eof))) State.reset
    (t.fsm, t.status, t.ibuf, t.calls) = (.shutdown, .exitOk, [], [.finalize]) := by decide
/-- L2.9: read error. -/
theorem test_await_readError :
    (after (step (waiting (some .readError))) State.reset).status = .exitFail .fRd := by decide
/-- R222: an empty chunk is no event. -/
theorem test_await_empty_chunk : step (waiting (some (.chunk []))) = .refused .chunkOutsideBounds := rfl

/-- A state in EMIT whose next capture is a planned frame. -/
def emitting (f : BitVec 3) (mode t : Byte) (w h stride : Nat) (pixels : List Pixel) (o : WriteOutcome) : State :=
  { withRaster w h stride t mode (List.replicate (stride * h) 0x5555) with
    pendingFmt := f
    env := { Environment.unplanned with frames := [pixels], writes := [o] } }

/-- L1.5, L3.1: the end-to-end scenario's snapshot packet. -/
theorem test_emit_direct24 :
    let t := after (step (emitting 1 0 0 2 2 2 (List.replicate 4 0xF800) .accepted)) State.reset
    (t.fsm, t.pendingFmt, t.calls, t.out) = (.await, 0, [.captureFrame],
      [0, 0, 0, 0x0C, 0xF8, 0, 0, 0xF8, 0, 0, 0xF8, 0, 0, 0xF8, 0, 0]) := by decide
/-- L2.7, fifth row's 4×4 checkerboard decided in a snapshot of format 3: DBUF is written, the payload is RASTER. -/
theorem test_emit_dithers_for_direct16 :
    let t := after (step (emitting 3 1 128 2 1 2 [0x0400, 0x0400] .accepted)) State.reset
    (t.dbuf, t.out) = ([0, 1], [0, 0, 0, 4, 0x00, 0x04, 0x00, 0x04]) := by decide
/-- L3.5: undithered mono at t = 200. -/
theorem test_emit_mono :
    (after (step (emitting 4 0 200 8 1 8 [0x0000, 0x0001, 0x0400, 0x0420, 0x8000, 0x8800, 0xC800, 0xFFFF] .accepted))
      State.reset).out = [0, 0, 0, 1, 0x80] := by decide
/-- R181: W = 7 refuses a row-major request. -/
theorem test_emit_mono_refused : step (emitting 4 0 0 7 1 7 [] .accepted) = .refused .monoGeometry := rfl
/-- R241: a failed snapshot write. -/
theorem test_emit_failed_write :
    let t := after (step (emitting 3 0 0 1 1 1 [0xF800] (.failed 99))) State.reset
    (t.fsm, t.status, t.out) = (.failed, .exitFail .fWr, [0, 0, 0, 2, 0x00]) := by decide
/-- U20. -/
theorem test_shutdown_halted : step (small .shutdown 1 1 1 []) = .fault .halted := rfl

/-! ## Witnesses: for each obligation with hypotheses, a state and operands that meet them together -/

/-- A state with these registers meets the invariant wherever its finite checks hold. -/
theorem inv_of_checks (s : State) (t : Byte)
    (hc : 6 ≤ s.params.inCap ∧ Memory.wf s ∧ s.pendingFmt.toNat ≤ 5 ∧ legalGeometry s.width s.height s.stride = true ∧
      s.fsm ≠ .init ∧ statusAgrees s.fsm s.status = true)
    (ht : s.thrR = thresholdR t ∧ s.thrG = thresholdG t ∧ s.thrB = thresholdB t)
    (hp : s.fsm = .await ∨ s.fsm = .emit → fetch s.params.inCap s.ibuf = .wait)
    (hf : (s.fsm = .await → s.pendingFmt = 0) ∧ (s.fsm = .emit → s.pendingFmt ≠ 0)) : s.Inv where
  capacityFloor := hc.1
  memory := hc.2.1
  inputParsed := hp
  awaitIdle := hf.1
  emitPending := hf.2
  formatLegal := hc.2.2.1
  thresholds := ⟨t, ht⟩
  geometryLegal := hc.2.2.2.1
  initFresh := fun h => absurd h hc.2.2.2.2.1
  statusAgrees := hc.2.2.2.2.2

/-- An undithered snapshot of format 1. -/
def snapshot1 : State := emitting 1 0 128 1 1 2 [0xF800, 0xFFFF] .accepted
/-- A dithered snapshot of format 3. -/
def snapshot3 : State := emitting 3 1 128 2 1 2 [0x0400, 0x0400] .accepted
/-- A snapshot whose packet write fails. -/
def snapshotFails : State := emitting 3 0 128 1 1 1 [0xF800] (.failed 0)
/-- The longest command that fits IN_CAP = 16 (L2.1 row 13), and a byte after it. -/
def fullBuffer : List Byte := [0, 0, 0, 0x0C, 9] ++ List.replicate 11 0xAA
/-- The command in `fullBuffer`. -/
def fullCommand : Instr := .ign08To0F 1 (List.replicate 11 0xAA)
/-- A two-element raster row whose second word is padding. -/
def padded (pad : Pixel) : State := withRaster 1 1 2 128 0 [0x1234, pad]

theorem inv_snapshot1 : snapshot1.Inv := inv_of_checks _ 128 (by decide) (by decide) (by decide) (by decide)
theorem inv_snapshot3 : snapshot3.Inv := inv_of_checks _ 128 (by decide) (by decide) (by decide) (by decide)
theorem inv_snapshotFails : snapshotFails.Inv := inv_of_checks _ 128 (by decide) (by decide) (by decide) (by decide)
theorem inv_waiting : (waiting (some .eof)).Inv := inv_of_checks _ 128 (by decide) (by decide) (by decide) (by decide)
/-- The engine after an orderly shutdown. -/
def stopped : State := { small .shutdown 1 1 1 [] with status := .exitOk }

theorem inv_shutdown : stopped.Inv :=
  inv_of_checks _ 128 (by decide) (by decide) (by decide) (by decide)

/-- AWAIT after boot, one event planned: its history is the capability packet and one call. -/
def booted : State :=
  { waiting (some .eof) with
    out := packets (waiting (some .eof)).geometry [], calls := callsAfter params16 0 }

theorem inv_booted : booted.Inv := inv_of_checks _ 128 (by decide) (by decide) (by decide) (by decide)
theorem history_booted : booted.History where
  atInit := by decide
  atWork := fun _ => ⟨[], rfl, rfl⟩
  atShutdown := fun h => absurd h (by decide)
  atFailure := fun h => absurd h (by decide)

theorem witness_DecodeInvertsEncode : (Instr.setDither (List.replicate 254 0xFF)).wf = true := by decide +kernel
theorem witness_EncodeInvertsDecode :
    decode [0, 0, 0, 2, 7, 1, 0xEE] = .ok (.setDither [1], [0xEE]) := by decide
theorem witness_OneTableRowMatches :
    decode (0 :: 0 :: 0 :: 0 :: 5 :: []) = .ok (.hdr0, [5]) ∧
      decode (0 :: 0 :: 0 :: 1 :: 0x80 :: []) = .ok (.ign80ToFF 0 [], []) := by decide
theorem witness_CommandFrame :
    exec .hdr0 snapshot1 = .next snapshot1 ∧ requestedFormat .hdr0 = none ∧
      (∀ args, Instr.hdr0 ≠ .setDither args) ∧ ∀ args, Instr.hdr0 ≠ .setThreshold args := by
  refine ⟨rfl, rfl, ?_, ?_⟩ <;> simp
theorem witness_StepRunsDecodedInstruction :
    (small .drain 1 1 1 fullBuffer).fsm = .drain ∧ decode (small .drain 1 1 1 fullBuffer).ibuf = .ok (fullCommand, []) ∧
      fullCommand.size ≤ (small .drain 1 1 1 fullBuffer).params.inCap := by decide
theorem witness_CommandConsumesItsBytes :
    (small .drain 1 1 1 fullBuffer).fsm = .drain ∧ (small .drain 1 1 1 fullBuffer).ibuf = encode fullCommand ++ [] ∧
      fullCommand.wf = true ∧ fullCommand.size ≤ (small .drain 1 1 1 fullBuffer).params.inCap := by decide
theorem witness_IllegalHeaderIsFatal :
    (small .drain 1 1 1 [0, 0, 1, 5]).fsm = .drain ∧ (small .drain 1 1 1 [0, 0, 1, 5]).ibuf = 0 :: 0 :: 1 :: 5 :: [] ∧
      ¬ ((0 : Byte) = 0 ∧ (0 : Byte) = 0 ∧ (1 : Byte) = 0) := by decide
theorem witness_OversizedCommandIsFatal :
    (small .drain 1 1 1 [0, 0, 0, 13]).fsm = .drain ∧ (small .drain 1 1 1 [0, 0, 0, 13]).ibuf = 0 :: 0 :: 0 :: 13 :: [] ∧
      (small .drain 1 1 1 [0, 0, 0, 13]).params.inCap < 4 + (13 : Byte).toNat := by decide
theorem witness_ParserWaitsForTheRest_header :
    (small .drain 1 1 1 [0, 0, 1]).fsm = .drain ∧ (small .drain 1 1 1 [0, 0, 1]).ibuf.length < 4 := by decide
theorem witness_ParserWaitsForTheRest_body :
    (small .drain 1 1 1 [0, 0, 0, 12]).fsm = .drain ∧
      ∃ (len : Byte) (tail : List Byte), (small .drain 1 1 1 [0, 0, 0, 12]).ibuf = 0 :: 0 :: 0 :: len :: tail ∧
        4 + len.toNat ≤ (small .drain 1 1 1 [0, 0, 0, 12]).params.inCap ∧ tail.length < len.toNat :=
  ⟨rfl, 12, [], by decide⟩
/-- A command and, with IN_CAP = 6, the first bytes of another: a pass that goes on. -/
theorem witness_DrainAlwaysEnds_pass :
    ∃ t, step { small .drain 1 1 1 [0, 0, 0, 1, 4, 0] with params := ⟨0, 0, 0, 6⟩ } = .next t ∧ t.fsm = .drain :=
  ⟨_, rfl, rfl⟩
theorem witness_DrainAlwaysEnds :
    { small .drain 1 1 1 [0, 0, 0, 1] with params := ⟨0, 0, 0, 6⟩ }.fsm = .drain ∧
      6 ≤ { small .drain 1 1 1 [0, 0, 0, 1] with params := ⟨0, 0, 0, 6⟩ }.params.inCap := by decide
theorem witness_DrainExecutesEveryCommand :
    (small .drain 1 1 1 [0, 0, 0, 0, 0, 0, 0, 1, 3, 0, 0, 0]).fsm = .drain ∧
      (small .drain 1 1 1 [0, 0, 0, 0, 0, 0, 0, 1, 3, 0, 0, 0]).ibuf =
        [Instr.hdr0, .reqRgb565 []].flatMap encode ++ [0, 0, 0] ∧
      (∀ i ∈ [Instr.hdr0, .reqRgb565 []], i.wf = true ∧ i.size ≤ 16) ∧ fetch 16 [0, 0, 0] = .wait := by decide
theorem witness_ChunkingDoesNotMatter :
    (∃ t, drain (small .drain 1 1 1 [0, 0]) = .next t ∧ t.fsm ≠ .failed) ∧
      ∃ t, drain (small .drain 1 1 1 [0, 1, 0, 0]) = .next t ∧ t.fsm = .failed :=
  ⟨⟨_, rfl, by decide⟩, ⟨_, rfl, by decide⟩⟩
theorem witness_LastRequestDecides :
    runCommands [.reqMono [], .hdr0] snapshot1 = .next (writePendingFmt 4 snapshot1) ∧
      requestedFormat (.reqRgb24 []) ≠ none ∧ requestedFormat (.reqMonoCol []) ≠ none := ⟨rfl, by decide, by decide⟩
theorem witness_ThresholdsDependOnTopSixBits : (0xFC : Byte).toNat / 4 = (0xFF : Byte).toNat / 4 := by decide
theorem witness_DirectTwentyFourTriples : enc24 (padded 0xEEEE) = .ok [0x10, 0x44, 0xA0] ∧ 0 < (padded 0xEEEE).width ∧
    0 < (padded 0xEEEE).height := by decide
theorem witness_DirectSixteenIsLossless : enc16 (padded 0xEEEE) = .ok [0x34, 0x12] ∧ 0 < (padded 0xEEEE).width ∧
    0 < (padded 0xEEEE).height := by decide
/-- An 8×8 raster with only pixel (2, 5) on (L1.6). -/
def onePixel : State := withRaster 8 8 8 0 0 (List.replicate 42 0 ++ [0xFFFF] ++ List.replicate 21 0)
theorem witness_MonoRowMajorBits :
    onePixel.width % 8 = 0 ∧ encMono onePixel = .ok [0, 0, 0, 0, 0, 0x04, 0, 0] ∧ 7 < onePixel.width ∧ 7 < onePixel.height := by
  decide +kernel
theorem witness_MonoColumnMajorBits :
    onePixel.height % 8 = 0 ∧ encMonoCol onePixel = .ok [0, 0, 0x20, 0, 0, 0, 0, 0] ∧ 7 < onePixel.width ∧
      7 < onePixel.height := by decide +kernel
theorem witness_MonoOrdersAgree :
    onePixel.width % 8 = 0 ∧ onePixel.height % 8 = 0 ∧ encMono onePixel = .ok [0, 0, 0, 0, 0, 0x04, 0, 0] ∧
      encMonoCol onePixel = .ok [0, 0, 0x20, 0, 0, 0, 0, 0] ∧ 2 < onePixel.width ∧ 5 < onePixel.height := by decide +kernel
theorem sameLogicalPixels_padded (a b : Pixel) : sameLogicalPixels (padded a) (padded b) := by
  refine ⟨rfl, fun x y hx hy => ?_⟩
  have hx0 : x = 0 := Nat.lt_one_iff.mp hx
  have hy0 : y = 0 := Nat.lt_one_iff.mp hy
  subst hx0 hy0
  rfl
theorem witness_ConvertersIgnorePaddingAndMore :
    sameLogicalPixels (padded 0xEEEE) (padded 0) ∧ (padded 0xEEEE).ditherMode = (padded 0).ditherMode ∧
      (padded 0xEEEE).thrR = (padded 0).thrR ∧ (padded 0xEEEE).thrG = (padded 0).thrG ∧
      (padded 0xEEEE).thrB = (padded 0).thrB ∧ (padded 0xEEEE).dbuf = (padded 0).dbuf ∧ padded 0xEEEE ≠ padded 0 :=
  ⟨sameLogicalPixels_padded _ _, by decide⟩
theorem witness_SharesAddUpToTheError :
    shares 63 = (27, 11, 19, 6) ∧ shares (-63) = (-28, -12, -20, -3) ∧ (-63 : Int) ≤ 63 := by decide
theorem witness_ScanVisitsEachPixelOnce : scan 2 2 = [(0, 0), (1, 0), (1, 1), (0, 1)] := by decide
theorem witness_DitherDecidesEveryPixel :
    (padded 0xEEEE).width ≤ (padded 0xEEEE).stride ∧
      (padded 0xEEEE).raster.length = (padded 0xEEEE).stride * (padded 0xEEEE).height := by decide
theorem witness_DitherDependsOnPixelsAndT6 :
    sameLogicalPixels (padded 0xEEEE) (writeThresholds 0x83 (padded 0)) ∧
      threshold6 (padded 0xEEEE).thrG = threshold6 (writeThresholds 0x83 (padded 0)).thrG :=
  ⟨sameLogicalPixels_padded _ _, by decide⟩
theorem witness_DitherStaysInRange :
    threshold6 (withRaster 2 1 2 255 1 [0xFFFF, 0xFFFF]).thrG ≤ 63 ∧
      initialEntries (withRaster 2 1 2 255 1 [0xFFFF, 0xFFFF]) = .ok [63, 63] ∧
      scan 2 1 = [(0, 0)] ++ [(1, 0)] ∧ [(0, 0)].foldlM (ditherPixel 2 1 63) [63, 63] = .ok [0, 90] ∧
      readEntry [0, 90] (0 * 2 + 1) = .ok 90 := by decide
theorem witness_SaturatedRastersAreNotDithered :
    (withRaster 1 1 1 128 1 [0]).logicalPixels = .ok [0] ∧ (∀ p ∈ [(0 : Pixel)], intensity p = 0) ∧
      (withRaster 1 1 1 251 1 [0xFFFF]).logicalPixels = .ok [0xFFFF] ∧ (∀ p ∈ [(0xFFFF : Pixel)], intensity p = 63) ∧
      threshold6 (withRaster 1 1 1 251 1 [0xFFFF]).thrG < 63 :=
  ⟨by decide, List.forall_mem_singleton.mpr (by decide), by decide, List.forall_mem_singleton.mpr (by decide), by decide⟩
theorem witness_FrameHeaderIsTheLength : (List.replicate 256 (0 : Byte)).length < 2 ^ 32 := by
  rw [List.length_replicate]
  decide
theorem witness_InitLatchesAndAnnounces :
    (booting (.ready record31) .accepted).fsm = .init ∧ (booting (.ready record31) .accepted).initAnswer = .ready record31 ∧
      legalRecord record31 = true ∧ (takeInitAnswer (booting (.ready record31) .accepted)).writeOutcome = .accepted := by
  decide
theorem witness_InitErrorIsFatal :
    (booting .error .accepted).fsm = .init ∧ (booting .error .accepted).initAnswer = .error := by decide
theorem witness_ChunkIsAppended :
    (waiting (some (.chunk (List.replicate 14 7)))).fsm = .await ∧
      (waiting (some (.chunk (List.replicate 14 7)))).hostEvent = some (.chunk (List.replicate 14 7)) ∧
      1 ≤ (List.replicate 14 (7 : Byte)).length ∧
      (List.replicate 14 (7 : Byte)).length ≤
        (waiting (some (.chunk (List.replicate 14 7)))).params.inCap - (waiting (some (.chunk (List.replicate 14 7)))).ibuf.length := by
  decide
theorem witness_WaitingChangesNothing : (waiting none).fsm = .await ∧ (waiting none).hostEvent = none := by decide
theorem witness_NonzeroModesAgree :
    (∃ t, step { snapshot3 with fsm := .emit, ditherMode := 1 } = .next t) ∧ (1 : Byte) ≠ 0 ∧ (0xFF : Byte) ≠ 0 :=
  ⟨⟨_, rfl⟩, by decide⟩
theorem witness_EndOfStreamShutsDown : (waiting (some .eof)).fsm = .await ∧ (waiting (some .eof)).hostEvent = some .eof := by decide
theorem witness_ReadErrorIsFatal :
    (waiting (some .readError)).fsm = .await ∧ (waiting (some .readError)).hostEvent = some .readError := by decide
theorem witness_TerminalStatesAreStuck :
    (small .shutdown 1 1 1 []).fsm = .shutdown ∧ (small .failed 1 1 1 []).fsm = .failed := by decide
theorem witness_SnapshotCycleCompletes_undithered :
    snapshot1.Inv ∧ snapshot1.fsm = .emit ∧ converterOf snapshot1.pendingFmt = some .enc24 ∧
      Converter.enc24.accepts snapshot1 = true ∧ (takeFrame snapshot1).writeOutcome = .accepted ∧
      snapshot1.ditherMode = 0 := ⟨inv_snapshot1, by decide⟩
theorem witness_SnapshotCycleCompletes_dithered :
    snapshot3.Inv ∧ snapshot3.fsm = .emit ∧ converterOf snapshot3.pendingFmt = some .enc16 ∧
      Converter.enc16.accepts snapshot3 = true ∧ (takeFrame snapshot3).writeOutcome = .accepted ∧
      snapshot3.ditherMode ≠ 0 := ⟨inv_snapshot3, by decide⟩
theorem witness_FailedSnapshotWriteIsFatal :
    snapshotFails.Inv ∧ snapshotFails.fsm = .emit ∧ converterOf snapshotFails.pendingFmt = some .enc16 ∧
      Converter.enc16.accepts snapshotFails = true ∧ (takeFrame snapshotFails).writeOutcome = .failed 0 :=
  ⟨inv_snapshotFails, by decide⟩
theorem witness_MonoGeometryIsRefused :
    (emitting 5 0 0 8 9 8 [] .accepted).fsm = .emit ∧ (emitting 5 0 0 8 9 8 [] .accepted).pendingFmt = 5 ∧
      (emitting 5 0 0 8 9 8 [] .accepted).height % 8 ≠ 0 := by decide
theorem witness_MonoGeometryIsRefused_rows :
    (emitting 4 0 0 9 8 9 [] .accepted).fsm = .emit ∧ (emitting 4 0 0 9 8 9 [] .accepted).pendingFmt = 4 ∧
      (emitting 4 0 0 9 8 9 [] .accepted).width % 8 ≠ 0 := by decide
theorem witness_SynonymsGiveTheSameSnapshot :
    ∃ t, step { snapshot1 with fsm := .emit, pendingFmt := 1 } = .next t := ⟨_, rfl⟩
theorem witness_EveryWordIsCapturedAfresh :
    snapshot1.fsm = .emit ∧ (∃ t, step snapshot1 = .next t) ∧ 1 < snapshot1.stride * snapshot1.height :=
  ⟨rfl, ⟨_, rfl⟩, by decide⟩
theorem witness_InvariantHoldsAtReset : 6 ≤ Params.inCap ⟨0, 0, 0, 6⟩ := by decide
theorem witness_EveryStepKeepsTheInvariant : snapshot3.Inv ∧ ∃ t, step snapshot3 = .next t := ⟨inv_snapshot3, _, rfl⟩
theorem witness_EveryStepKeepsTheHistory : booted.Inv ∧ booted.History ∧ ∃ t, step booted = .next t :=
  ⟨inv_booted, history_booted, _, rfl⟩
theorem witness_NoIndexLeavesItsArray :
    stopped.Inv ∧ step stopped = .fault .halted := ⟨inv_shutdown, rfl⟩
theorem witness_StatusSettlesOnce :
    (waiting (some .eof)).Inv ∧ ∃ t, step (waiting (some .eof)) = .next t := ⟨inv_waiting, _, rfl⟩
/-- A SET_THRESHOLD in DRAIN: the one step meets the hypotheses of `OutputGrowsByPackets`,
`GeometryIsLatchedOnce`, `ThresholdsAreWrittenTogether` and `OnlyAwaitTakesInput`. -/
theorem witness_steps_outside_init_and_await :
    (small .drain 1 1 1 [0, 0, 0, 2, 6, 9]).fsm ≠ .init ∧ (small .drain 1 1 1 [0, 0, 0, 2, 6, 9]).fsm ≠ .await ∧
      ∃ t, step (small .drain 1 1 1 [0, 0, 0, 2, 6, 9]) = .next t := ⟨by decide, by decide, _, rfl⟩
theorem witness_BuffersAreWrittenInEmitAlone :
    (∃ t, step (waiting (some .eof)) = .next t ∧ (waiting (some .eof)).fsm ≠ .init ∧ (waiting (some .eof)).fsm ≠ .emit) ∧
      (∃ t, step snapshot1 = .next t ∧ snapshot1.fsm = .emit ∧ snapshot1.ditherMode = 0) ∧
      ∃ t, step snapshot3 = .next t ∧ snapshot3.fsm = .emit ∧ snapshot3.ditherMode ≠ 0 :=
  ⟨⟨_, rfl, by decide⟩, ⟨_, rfl, by decide⟩, ⟨_, rfl, by decide⟩⟩
theorem witness_BuffersAreWrittenInEmitAlone_init :
    (∃ t, step (booting .error .accepted) = .next t ∧ (booting .error .accepted).initAnswer = .error) ∧
      ∃ t, step (booting (.ready record31) .accepted) = .next t ∧
        (booting (.ready record31) .accepted).initAnswer ≠ .error :=
  ⟨⟨_, rfl, rfl⟩, ⟨_, rfl, by decide⟩⟩

end Sys2Proof.Tests
end

section
/-! SUPPORT. What the operations that end a step leave unchanged, and what INIT latches from a legal
record. -/

namespace Sys2Proof.Machine

/-! ## Frames -/

/-- Execute writes the configuration registers and PENDING_FMT alone (R112). -/
theorem exec_frame {i : Instr} {s t : State} (h : exec i s = .next t) :
    { t with
      thrR := s.thrR, thrG := s.thrG, thrB := s.thrB, ditherMode := s.ditherMode
      pendingFmt := s.pendingFmt } = s := by
  rcases exec_cases i s with ⟨f, -, he⟩ | ⟨v, rest, -, he⟩ | ⟨m, rest, -, he⟩ | ⟨-, he⟩ <;>
    obtain rfl := Host.Outcome.next.inj (he.symm.trans h) <;> rfl

/-- The capture and the dithering engine write RASTER and DBUF alone, beside the model's own record of
the call and of the choice (R140, R226). -/
theorem prepareSnapshot_frame {s p : State} (h : prepareSnapshot s = .ok p) :
    { p with raster := s.raster, dbuf := s.dbuf, calls := s.calls, env := s.env } = s := by
  rcases prepareSnapshot_cases h with ⟨-, rfl⟩ | ⟨d, -, -, rfl⟩ <;> rfl

theorem emitPacket_accepted {packet : List Byte} {k : State → State} {s : State} (h : s.writeOutcome = .accepted) :
    emitPacket packet k s = k (appendOut packet (takeWriteOutcome s)) := by rw [emitPacket, h]

theorem emitPacket_params (packet : List Byte) {k : State → State} (s : State)
    (hk : ∀ u, (k u).params = u.params) : (emitPacket packet k s).params = s.params := by
  rcases emitPacket_cases packet k s with ⟨-, he⟩ | ⟨n, -, he⟩ <;> simp [he, hk]

theorem emitPacket_geometry (packet : List Byte) {k : State → State} (s : State)
    (hk : ∀ u, (k u).geometry = u.geometry) : (emitPacket packet k s).geometry = s.geometry := by
  rcases emitPacket_cases packet k s with ⟨-, he⟩ | ⟨n, -, he⟩ <;> simp [he, hk]

@[simp] theorem askedProvider_params (s : State) : (askedProvider s).params = s.params := rfl

/-! ## What INIT latches -/

/-- The part of R8 that `legalRecord` asks of W, H and S; each fits its register (R28, entry 18). -/
theorem legalRecord_geometry {r : ProviderRecord} (h : legalRecord r = true) :
    legalGeometry r.captureW r.captureH r.captureS = true ∧
      r.captureW < 2 ^ 32 ∧ r.captureH < 2 ^ 32 ∧ r.captureS < 2 ^ 32 := by
  simp only [legalRecord, Bool.and_eq_true, decide_eq_true_eq] at h
  obtain ⟨⟨⟨⟨hgeometry, -⟩, hw⟩, hh⟩, hs⟩ := h
  exact ⟨hgeometry.1.1, hw, hh, hs⟩

theorem latchGeometry_width {r : ProviderRecord} (h : legalRecord r = true) (s : State) :
    (latchGeometry (latch r) s).width = r.captureW := by
  obtain ⟨-, hw, -, -⟩ := legalRecord_geometry h
  simpa [State.width, latch] using Nat.mod_eq_of_lt hw

theorem latchGeometry_height {r : ProviderRecord} (h : legalRecord r = true) (s : State) :
    (latchGeometry (latch r) s).height = r.captureH := by
  obtain ⟨-, -, hh, -⟩ := legalRecord_geometry h
  simpa [State.height, latch] using Nat.mod_eq_of_lt hh

theorem latchGeometry_stride {r : ProviderRecord} (h : legalRecord r = true) (s : State) :
    (latchGeometry (latch r) s).stride = r.captureS := by
  obtain ⟨-, -, -, hs⟩ := legalRecord_geometry h
  simpa [State.stride, latch] using Nat.mod_eq_of_lt hs

/-- INIT where the provider is ready and the capability packet is accepted (R221). -/
theorem stepInit_accepted {s : State} {r : ProviderRecord} (ha : s.initAnswer = .ready r)
    (hr : legalRecord r = true) (hw : (takeInitAnswer s).writeOutcome = .accepted) :
    stepInit s = .next (setFsm .await (appendOut (frame (capability (latch r)))
      (takeWriteOutcome (latchGeometry (latch r) (askedProvider s))))) := by
  have hw' : (latchGeometry (latch r) (askedProvider s)).writeOutcome = .accepted := hw
  simp only [stepInit, ha, hr, if_true]
  exact congrArg _ (emitPacket_accepted hw')

theorem step_of_init {s : State} (hf : s.fsm = .init) : step s = stepInit s := by rw [step, hf]

end Sys2Proof.Machine
end

section
/-! SUPPORT. The invariant in two parts: the clauses on registers and buffers, which hold in every part
of the Driver, and what each value of FSM adds to them. -/

namespace Sys2Proof.Machine

/-- The clauses of `State.Inv` that do not speak of FSM. -/
structure State.Legal (s : State) : Prop where
  capacityFloor : 6 ≤ s.params.inCap
  memory : Memory.wf s
  formatLegal : s.pendingFmt.toNat ≤ 5
  thresholds : s.thresholdsDerived
  geometryLegal : legalGeometry s.width s.height s.stride = true

variable {s t : State}

theorem State.Inv.legal (h : s.Inv) : s.Legal where
  capacityFloor := h.capacityFloor
  memory := h.memory
  formatLegal := h.formatLegal
  thresholds := h.thresholds
  geometryLegal := h.geometryLegal

/-- STATUS is RUNNING until the engine has stopped (R33). -/
theorem State.Inv.running (h : s.Inv) (ht : s.terminal = false) : s.status = .running := by
  have ha := h.statusAgrees
  cases hf : s.fsm <;> simp_all [State.terminal, Machine.statusAgrees]

/-! ## What the operations do to the clauses without FSM -/

/-- The clauses read neither DITHER_MODE, FSM, STATUS and OUT nor the model's own records. -/
theorem State.Legal.of_frame (h : s.Legal)
    (hframe : { t with
      ditherMode := s.ditherMode, fsm := s.fsm, status := s.status, out := s.out, calls := s.calls
      env := s.env } = s) : t.Legal := by
  rw [← hframe] at h
  exact ⟨h.capacityFloor, h.memory, h.formatLegal, h.thresholds, h.geometryLegal⟩

theorem State.Legal.writePendingFmt (h : s.Legal) {f : BitVec 3} (hf : f.toNat ≤ 5) :
    (writePendingFmt f s).Legal :=
  ⟨h.capacityFloor, h.memory, hf, h.thresholds, h.geometryLegal⟩

theorem State.Legal.writeThresholds (h : s.Legal) (v : Byte) : (writeThresholds v s).Legal :=
  ⟨h.capacityFloor, h.memory, h.formatLegal, ⟨v, rfl, rfl, rfl⟩, h.geometryLegal⟩

theorem State.Legal.consume (h : s.Legal) (n : Nat) : (consume n s).Legal :=
  ⟨h.capacityFloor, Memory.wf_consume n h.memory, h.formatLegal, h.thresholds, h.geometryLegal⟩

theorem State.Legal.discardInput (h : s.Legal) : (discardInput s).Legal :=
  ⟨h.capacityFloor, Memory.wf_discardInput h.memory, h.formatLegal, h.thresholds, h.geometryLegal⟩

theorem State.Legal.appendChunk (h : s.Legal) {c : List Byte} (hc : legalChunk c s = true) :
    (appendChunk c s).Legal :=
  ⟨h.capacityFloor, Memory.wf_appendChunk h.memory hc, h.formatLegal, h.thresholds, h.geometryLegal⟩

theorem State.Legal.latchGeometry (h : s.Legal) {r : ProviderRecord} (hr : legalRecord r = true) :
    (latchGeometry (latch r) s).Legal where
  capacityFloor := h.capacityFloor
  memory := Memory.wf_latchGeometry _ h.memory.1
  formatLegal := h.formatLegal
  thresholds := h.thresholds
  geometryLegal := by
    rw [latchGeometry_width hr, latchGeometry_height hr, latchGeometry_stride hr]
    exact (legalRecord_geometry hr).1

theorem State.Legal.capture (h : s.Legal) : (capture s).Legal :=
  ⟨h.capacityFloor, Memory.wf_capture h.memory, h.formatLegal, h.thresholds, h.geometryLegal⟩

theorem State.Legal.prepareSnapshot (h : s.Legal) (hp : prepareSnapshot s = .ok t) : t.Legal := by
  rcases prepareSnapshot_cases hp with ⟨-, rfl⟩ | ⟨d, -, hd, rfl⟩
  · exact h.capture
  · obtain ⟨hcap, ⟨hibuf, hraster, -⟩, hfmt, hthr, hgeometry⟩ := h.capture
    exact ⟨hcap, ⟨hibuf, hraster, ditherEntries_length hd⟩, hfmt, hthr, hgeometry⟩

/-- A request writes one of 1 to 5 (R27, R113 to R117). -/
theorem requestedFormat_le {i : Instr} {f : BitVec 3} (h : requestedFormat i = some f) : f.toNat ≤ 5 := by
  cases i <;> simp only [requestedFormat, Option.some.injEq, reduceCtorEq] at h <;> subst h <;> decide

theorem State.Legal.exec (h : s.Legal) {i : Instr} (he : exec i s = .next t) : t.Legal := by
  rcases exec_cases i s with ⟨f, hf, h1⟩ | ⟨v, rest, -, h1⟩ | ⟨m, rest, -, h1⟩ | ⟨-, h1⟩ <;>
    obtain rfl := Host.Outcome.next.inj (h1.symm.trans he)
  · exact h.writePendingFmt (requestedFormat_le hf)
  · exact h.writeThresholds v
  · exact h.of_frame rfl
  · exact h

/-! ## What each value of FSM adds -/

theorem State.Legal.inv_await (h : s.Legal) (hf : s.fsm = .await) (hst : s.status = .running)
    (hp : s.pendingFmt = 0) (hw : fetch s.params.inCap s.ibuf = .wait) : s.Inv where
  __ := h
  inputParsed := fun _ => hw
  awaitIdle := fun _ => hp
  emitPending := by simp [hf]
  initFresh := by simp [hf]
  statusAgrees := by simp [hf, hst, Machine.statusAgrees]

theorem State.Legal.inv_drain (h : s.Legal) (hf : s.fsm = .drain) (hst : s.status = .running) : s.Inv where
  __ := h
  inputParsed := by simp [hf]
  awaitIdle := by simp [hf]
  emitPending := by simp [hf]
  initFresh := by simp [hf]
  statusAgrees := by simp [hf, hst, Machine.statusAgrees]

theorem State.Legal.inv_emit (h : s.Legal) (hf : s.fsm = .emit) (hst : s.status = .running)
    (hp : s.pendingFmt ≠ 0) (hw : fetch s.params.inCap s.ibuf = .wait) : s.Inv where
  __ := h
  inputParsed := fun _ => hw
  awaitIdle := by simp [hf]
  emitPending := fun _ => hp
  initFresh := by simp [hf]
  statusAgrees := by simp [hf, hst, Machine.statusAgrees]

/-- A stopped engine needs no more than its STATUS. -/
theorem State.Legal.inv_terminal (h : s.Legal) (ht : s.terminal = true)
    (hst : Machine.statusAgrees s.fsm s.status = true) : s.Inv := by
  simp only [State.terminal, Bool.or_eq_true, beq_iff_eq] at ht
  exact {
    __ := h
    inputParsed := by rcases ht with hf | hf <;> simp [hf]
    awaitIdle := by rcases ht with hf | hf <;> simp [hf]
    emitPending := by rcases ht with hf | hf <;> simp [hf]
    initFresh := by rcases ht with hf | hf <;> simp [hf]
    statusAgrees := hst }

theorem State.Legal.inv_raiseFatal (h : s.Legal) (code : FatalCode) : (raiseFatal code s).Inv :=
  State.Legal.inv_terminal (h.of_frame rfl) rfl rfl

theorem State.Legal.inv_shutDown (h : s.Legal) : (shutDown s).Inv :=
  State.Legal.inv_terminal (h.of_frame rfl) rfl rfl

/-- A packet write keeps the invariant where what follows an accepted write does (R201, R241). -/
theorem State.Legal.inv_emitPacket (h : s.Legal) {packet : List Byte} {k : State → State}
    (hk : (k (appendOut packet (takeWriteOutcome s))).Inv) : (emitPacket packet k s).Inv := by
  rcases emitPacket_cases packet k s with ⟨-, he⟩ | ⟨n, -, he⟩ <;> rw [he]
  · exact hk
  · have hcut : (appendOut (packet.take (min n (packet.length - 1))) (takeWriteOutcome s)).Legal := h.of_frame rfl
    exact hcut.inv_raiseFatal .fWr

/-! ## Each part of the Driver keeps the invariant -/

theorem fetch_nil (cap : Nat) : fetch cap [] = .wait := rfl

theorem stepInit_inv (h : s.Inv) (hf : s.fsm = .init) (hs : stepInit s = .next t) : t.Inv := by
  have hrun := h.running (by simp [State.terminal, hf])
  obtain ⟨-, -, hibuf, hfmt⟩ := h.initFresh hf
  have hasked : (askedProvider s).Legal := h.legal.of_frame rfl
  rcases stepInit_cases hs with ⟨-, rfl⟩ | ⟨r, -, hr, rfl⟩
  · exact hasked.inv_raiseFatal .fInit
  · have hlatched := hasked.latchGeometry hr
    refine hlatched.inv_emitPacket (State.Legal.inv_await (hlatched.of_frame rfl) ?_ ?_ ?_ ?_)
    · rfl
    · simpa [askedProvider] using hrun
    · simpa [askedProvider] using hfmt
    · simp [askedProvider, hibuf, fetch_nil]

theorem stepAwait_inv (h : s.Inv) (hf : s.fsm = .await) (hs : stepAwait s = .next t) : t.Inv := by
  have hrun := h.running (by simp [State.terminal, hf])
  have htaken : (takeHostEvent s).Legal := h.legal.of_frame rfl
  rcases stepAwait_cases hs with ⟨-, rfl⟩ | ⟨c, -, hc, rfl⟩ | ⟨-, rfl⟩ | ⟨-, rfl⟩
  · exact htaken.inv_await hf hrun (h.awaitIdle hf) (h.inputParsed (.inl hf))
  · have happended : (appendChunk c (takeHostEvent s)).Legal := htaken.appendChunk hc
    exact State.Legal.inv_drain (happended.of_frame rfl) rfl hrun
  · have hrecorded : (recordCall .finalize (takeHostEvent s)).Legal := htaken.of_frame rfl
    exact hrecorded.discardInput.inv_shutDown
  · exact htaken.inv_raiseFatal .fRd

/-- Where Drain returns, PENDING_FMT says whether AWAIT or EMIT follows (R225). -/
theorem endDrain_inv (h : s.Inv) (hf : s.fsm = .drain) (hw : fetch s.params.inCap s.ibuf = .wait) :
    (endDrain s).Inv := by
  have hrun := h.running (by simp [State.terminal, hf])
  have hlegal : (endDrain s).Legal := h.legal.of_frame rfl
  by_cases hp : s.pendingFmt = 0
  · exact hlegal.inv_await (by simpa [State.snapshotPending] using hp) hrun hp hw
  · exact hlegal.inv_emit (by simpa [State.snapshotPending] using hp) hrun hp hw

theorem stepDrain_inv (h : s.Inv) (hf : s.fsm = .drain) (hs : stepDrain s = .next t) : t.Inv := by
  rcases stepDrain_cases hs with ⟨hw, rfl⟩ | ⟨code, -, rfl⟩ | ⟨i, n, -, he⟩
  · exact endDrain_inv h hf hw
  · exact h.legal.inv_raiseFatal code
  · have hframe := exec_frame he
    have hfsm : t.fsm = s.fsm := (congrArg State.fsm hframe :)
    have hstatus : t.status = s.status := (congrArg State.status hframe :)
    exact ((h.legal.consume n).exec he).inv_drain (hfsm.trans hf)
      (hstatus.trans (h.running (by simp [State.terminal, hf])))

theorem stepEmit_inv (h : s.Inv) (hf : s.fsm = .emit) (hs : stepEmit s = .next t) : t.Inv := by
  obtain ⟨c, prepared, payload, -, -, hp, -, -, rfl⟩ := stepEmit_cases hs
  have hprepared : prepared.Legal := h.legal.prepareSnapshot hp
  have hsent : (appendOut (frame payload) (takeWriteOutcome prepared)).Legal := hprepared.of_frame rfl
  have hended : (endSnapshot (appendOut (frame payload) (takeWriteOutcome prepared))).Legal :=
    State.Legal.of_frame (hsent.writePendingFmt (f := 0) (by decide)) rfl
  have hframe := prepareSnapshot_frame hp
  have hstatus : prepared.status = s.status := (congrArg State.status hframe :)
  have hparams : prepared.params = s.params := (congrArg State.params hframe :)
  have hibuf : prepared.ibuf = s.ibuf := (congrArg State.ibuf hframe :)
  refine hprepared.inv_emitPacket (hended.inv_await rfl ?_ rfl ?_)
  · exact hstatus.trans (h.running (by simp [State.terminal, hf]))
  · simpa [hparams, hibuf] using h.inputParsed (.inr hf)

end Sys2Proof.Machine
end

section
/-! The statements of the family 00_scope.md, from the lemmas above. -/

namespace Sys2Proof.Machine

/-- Settles O51: each part of the Driver keeps the clauses on registers and buffers and establishes what
its next value of FSM asks. -/
theorem everyStepKeepsTheInvariant : Obligations.EveryStepKeepsTheInvariant := by
  intro s t hinv hstep
  rcases step_cases hstep with ⟨hf, hs⟩ | ⟨hf, hs⟩ | ⟨hf, hs⟩ | ⟨hf, hs⟩
  · exact stepInit_inv hinv hf hs
  · exact stepAwait_inv hinv hf hs
  · exact stepDrain_inv hinv hf hs
  · exact stepEmit_inv hinv hf hs

/-- Settles O36: the next state is the record latched and the capability packet appended. -/
theorem initLatchesAndAnnounces : Obligations.InitLatchesAndAnnounces := by
  intro s r hf ha hr hw
  have hwidth := latchGeometry_width hr (askedProvider s)
  have hheight := latchGeometry_height hr (askedProvider s)
  have hstride := latchGeometry_stride hr (askedProvider s)
  have hraster := latchGeometry_raster_length (latch r) (askedProvider s)
  have hdbuf := latchGeometry_dbuf_length (latch r) (askedProvider s)
  rw [hheight] at hraster hdbuf
  rw [hstride] at hraster
  rw [hwidth] at hdbuf
  refine ⟨_, (step_of_init hf).trans (stepInit_accepted ha hr hw), hwidth, hheight, hstride, rfl, rfl, rfl, rfl,
    hraster, hdbuf, rfl, rfl, rfl, ?_⟩
  simp [askedProvider]

/-- Settles O57: INIT alone latches a geometry, and neither Execute, the capture, the dithering engine nor a
packet write reaches a geometry register or a parameter. -/
theorem geometryIsLatchedOnce : Obligations.GeometryIsLatchedOnce := by
  intro s t hstep
  rcases step_cases hstep with ⟨hf, hs⟩ | ⟨-, hs⟩ | ⟨-, hs⟩ | ⟨-, hs⟩
  · refine ⟨?_, absurd hf⟩
    rcases stepInit_cases hs with ⟨-, rfl⟩ | ⟨r, -, -, rfl⟩
    · rfl
    · rw [emitPacket_params _ _ fun _ => setFsm_params _ _, latchGeometry_params, askedProvider_params]
  · rcases stepAwait_cases hs with ⟨-, rfl⟩ | ⟨c, -, -, rfl⟩ | ⟨-, rfl⟩ | ⟨-, rfl⟩ <;> exact ⟨rfl, fun _ => rfl⟩
  · rcases stepDrain_cases hs with ⟨-, rfl⟩ | ⟨code, -, rfl⟩ | ⟨i, n, -, he⟩
    · exact ⟨rfl, fun _ => rfl⟩
    · exact ⟨rfl, fun _ => rfl⟩
    · have hframe := exec_frame he
      exact ⟨(congrArg State.params hframe :), fun _ => (congrArg State.geometry hframe :)⟩
  · obtain ⟨c, prepared, payload, -, -, hp, -, -, rfl⟩ := stepEmit_cases hs
    have hframe := prepareSnapshot_frame hp
    rw [emitPacket_params _ _ endSnapshot_params, emitPacket_geometry _ _ endSnapshot_geometry]
    exact ⟨(congrArg State.params hframe :), fun _ => (congrArg State.geometry hframe :)⟩

end Sys2Proof.Machine
end

section
/-! SUPPORT. What a packet write, a drain pass and a snapshot cycle leave unchanged, and the threshold
values as numbers. -/

namespace Sys2Proof.Machine

/-! ## Threshold values (R21 to R23) -/

theorem thresholdR_toNat (t : Byte) : (thresholdR t).toNat = t.toNat / 8 := by
  have := t.isLt
  simp only [thresholdR, BitVec.toNat_setWidth, BitVec.toNat_ushiftRight, Nat.shiftRight_eq_div_pow]
  omega

theorem thresholdG_toNat (t : Byte) : (thresholdG t).toNat = t.toNat / 4 * 32 := by
  have := t.isLt
  simp only [thresholdG, BitVec.toNat_shiftLeft, BitVec.toNat_setWidth, BitVec.toNat_ushiftRight,
    Nat.shiftRight_eq_div_pow, Nat.shiftLeft_eq]
  omega

theorem thresholdB_toNat (t : Byte) : (thresholdB t).toNat = t.toNat / 8 * 2048 := by
  have := t.isLt
  simp only [thresholdB, BitVec.toNat_shiftLeft, BitVec.toNat_setWidth, BitVec.toNat_ushiftRight,
    Nat.shiftRight_eq_div_pow, Nat.shiftLeft_eq]
  omega

theorem thresholdR_eq_ofNat (t : Byte) : thresholdR t = BitVec.ofNat 16 (t.toNat / 8) := by
  rw [← thresholdR_toNat, BitVec.ofNat_toNat, BitVec.setWidth_eq]

theorem thresholdG_eq_ofNat (t : Byte) : thresholdG t = BitVec.ofNat 16 (t.toNat / 4 * 32) := by
  rw [← thresholdG_toNat, BitVec.ofNat_toNat, BitVec.setWidth_eq]

theorem thresholdB_eq_ofNat (t : Byte) : thresholdB t = BitVec.ofNat 16 (t.toNat / 8 * 2048) := by
  rw [← thresholdB_toNat, BitVec.ofNat_toNat, BitVec.setWidth_eq]

/-! ## Packet writes -/

/-- A packet write whose continuation writes at most PENDING_FMT and FSM changes these, STATUS and OUT, and
the model's own records (R201, R229, R241). -/
theorem emitPacket_frame (packet : List Byte) {k : State → State} (s : State)
    (hk : ∀ u, { k u with pendingFmt := u.pendingFmt, fsm := u.fsm } = u) :
    { emitPacket packet k s with
      pendingFmt := s.pendingFmt, fsm := s.fsm, status := s.status, out := s.out, calls := s.calls
      env := s.env } = s := by
  rcases emitPacket_cases packet k s with ⟨-, he⟩ | ⟨n, -, he⟩ <;> rw [he]
  · have hsent := hk (appendOut packet (takeWriteOutcome s))
    exact congrArg (fun u : State => { u with
      status := s.status, out := s.out, calls := s.calls, env := s.env }) hsent
  · rfl

/-- OUT after a packet write: the whole packet, or less than the whole and F_WR (R201, R241). -/
theorem emitPacket_out (payload : List Byte) {k : State → State} (s : State) (hk : ∀ u, (k u).out = u.out) :
    (emitPacket (frame payload) k s).out = s.out ++ frame payload ∨
      ∃ n, n < (frame payload).length ∧ (emitPacket (frame payload) k s).out = s.out ++ (frame payload).take n ∧
        (emitPacket (frame payload) k s).fsm = .failed ∧
        (emitPacket (frame payload) k s).status = .exitFail .fWr := by
  rcases emitPacket_cases (frame payload) k s with ⟨-, he⟩ | ⟨n, -, he⟩ <;> rw [he]
  · exact .inl (hk _)
  · refine .inr ⟨min n ((frame payload).length - 1), ?_, rfl, rfl, rfl⟩
    rw [frame_length]
    omega

theorem prepareSnapshot_raster {s p : State} (h : prepareSnapshot s = .ok p) :
    p.raster = (List.range (s.stride * s.height)).map s.capturedWord := by
  rcases prepareSnapshot_cases h with ⟨-, rfl⟩ | ⟨d, -, -, rfl⟩ <;> rfl

theorem prepareSnapshot_out {s p : State} (h : prepareSnapshot s = .ok p) : p.out = s.out :=
  (congrArg State.out (prepareSnapshot_frame h) :)

theorem prepareSnapshot_calls {s p : State} (h : prepareSnapshot s = .ok p) :
    p.calls = s.calls ++ [.captureFrame] := by
  rcases prepareSnapshot_cases h with ⟨-, rfl⟩ | ⟨d, -, -, rfl⟩ <;> rfl

/-- A command that has been consumed and executed leaves the arrays, FSM, STATUS, OUT and the environment
as they were (R112). -/
theorem exec_consume_frame {i : Instr} {n : Nat} {s t : State} (h : exec i (consume n s) = .next t) :
    { t with
      thrR := s.thrR, thrG := s.thrG, thrB := s.thrB, ditherMode := s.ditherMode, pendingFmt := s.pendingFmt
      ibuf := s.ibuf } = s :=
  congrArg (fun u : State => { u with ibuf := s.ibuf }) (exec_frame h)

end Sys2Proof.Machine
end

section
/-! SUPPORT. The history of OUT and of the provider calls: what a working engine has sent, and what each
part of the Driver adds to it. -/

namespace Sys2Proof.Machine

variable {s t : State}

theorem packets_concat (g : Geometry) (payloads : List (List Byte)) (p : List Byte) :
    packets g (payloads ++ [p]) = packets g payloads ++ frame p := by
  simp [packets]

theorem callsAfter_succ (p : Params) (n : Nat) : callsAfter p (n + 1) = callsAfter p n ++ [.captureFrame] := by
  simp [callsAfter, List.replicate_succ']

/-- While the engine works, initialize has been called first and finalize not at all (R254). -/
theorem callsAfter_count_finalize (p : Params) (n : Nat) : (callsAfter p n).count .finalize = 0 := by
  simp [List.count_eq_zero, callsAfter]

theorem callsAfter_tail (p : Params) (n : Nat) : (callsAfter p n).tail = List.replicate n .captureFrame := rfl

theorem callsAfter_ne_nil (p : Params) (n : Nat) : callsAfter p n ≠ [] := by simp [callsAfter]

theorem raiseFatal_calls_cases (code : FatalCode) (s : State) :
    (raiseFatal code s).calls = s.calls ∨ (raiseFatal code s).calls = s.calls ++ [.finalize] := by
  rw [raiseFatal_calls]
  split <;> simp

/-- The clause of `State.History` on a working engine: the capability packet and these payloads have been
sent, with one capture for each (R206, R228). -/
def State.HasSent (s : State) (payloads : List (List Byte)) : Prop :=
  s.out = packets s.geometry payloads ∧ s.calls = callsAfter s.params payloads.length

theorem history_of_working (hf : s.fsm = .await ∨ s.fsm = .drain ∨ s.fsm = .emit) {payloads : List (List Byte)}
    (h : s.HasSent payloads) : s.History where
  atInit := by rcases hf with hf | hf | hf <;> simp [hf]
  atWork := fun _ => ⟨payloads, h⟩
  atShutdown := by rcases hf with hf | hf | hf <;> simp [hf]
  atFailure := by rcases hf with hf | hf | hf <;> simp [hf]

theorem history_shutDown {payloads : List (List Byte)} (h : s.HasSent payloads) :
    (shutDown (discardInput (recordCall .finalize s))).History where
  atInit := by simp
  atWork := by simp
  atShutdown := fun _ => ⟨payloads, h.1, congrArg (· ++ [ProviderCall.finalize]) h.2⟩
  atFailure := by simp

/-- Whatever bytes of a sequence of packets are out when a fatal condition is raised, the provider has been
initialized first and is finalized at most once (R241, R254). -/
theorem history_raiseFatal (code : FatalCode) (hout : ∃ payloads, s.out <+: packets s.geometry payloads)
    (hcalls : ∃ n, s.calls = callsAfter s.params n) : (raiseFatal code s).History where
  atInit := by simp
  atWork := by simp
  atShutdown := by simp
  atFailure := fun _ => by
    obtain ⟨n, hcalls⟩ := hcalls
    rcases raiseFatal_calls_cases code s with he | he <;> rw [he, hcalls]
    · refine ⟨hout, by simp [callsAfter_count_finalize], rfl, ?_⟩
      simp [callsAfter_tail]
    · refine ⟨hout, by simp [callsAfter_count_finalize], rfl, ?_⟩
      simp [List.tail_append_of_ne_nil (callsAfter_ne_nil _ _), callsAfter_tail, or_imp, forall_and]

/-- A fatal condition of a working engine (R241). -/
theorem State.HasSent.history_raiseFatal {payloads : List (List Byte)} (h : s.HasSent payloads)
    (code : FatalCode) : (raiseFatal code s).History :=
  Machine.history_raiseFatal code ⟨payloads, by rw [h.1]⟩ ⟨_, h.2⟩

/-- A packet write keeps the history where what follows an accepted write does; a failed write has sent the
beginning of what an accepted one would have (R201, R241). -/
theorem history_emitPacket {packet : List Byte} {k : State → State}
    (hk : (k (appendOut packet (takeWriteOutcome s))).History)
    (hout : ∃ payloads, s.out ++ packet = packets s.geometry payloads)
    (hcalls : ∃ n, s.calls = callsAfter s.params n) : (emitPacket packet k s).History := by
  rcases emitPacket_cases packet k s with ⟨-, he⟩ | ⟨n, -, he⟩ <;> rw [he]
  · exact hk
  · obtain ⟨payloads, hout⟩ := hout
    refine history_raiseFatal .fWr ⟨payloads, ?_⟩ hcalls
    calc s.out ++ packet.take (min n (packet.length - 1))
        <+: s.out ++ packet := List.prefix_append_right_inj _ |>.mpr (List.take_prefix _ _)
      _ = packets s.geometry payloads := hout

theorem stepInit_history (h : s.History) (hf : s.fsm = .init) (hs : stepInit s = .next t) : t.History := by
  obtain ⟨hout, hcalls⟩ := h.atInit hf
  have hasked : (askedProvider s).calls = callsAfter s.params 0 := by simp [askedProvider, hcalls, callsAfter]
  rcases stepInit_cases hs with ⟨-, rfl⟩ | ⟨r, -, -, rfl⟩
  · refine history_raiseFatal .fInit ⟨[], ?_⟩ ⟨0, hasked⟩
    simp [askedProvider, hout]
  · have hlatched : (latchGeometry (latch r) (askedProvider s)).calls = callsAfter s.params 0 := hasked
    have hannounced : (latchGeometry (latch r) (askedProvider s)).out ++ frame (capability (latch r)) =
        packets (latch r) [] := by
      simp [askedProvider, hout, packets]
    refine history_emitPacket (history_of_working (.inl rfl) (payloads := []) ⟨?_, ?_⟩) ⟨[], ?_⟩ ⟨0, hlatched⟩
    · simpa using hannounced
    · simpa using hlatched
    · simpa using hannounced

theorem stepAwait_history {payloads : List (List Byte)} (h : s.HasSent payloads) (hf : s.fsm = .await)
    (hs : stepAwait s = .next t) : t.History := by
  have htaken : (takeHostEvent s).HasSent payloads := h
  rcases stepAwait_cases hs with ⟨-, rfl⟩ | ⟨c, -, -, rfl⟩ | ⟨-, rfl⟩ | ⟨-, rfl⟩
  · exact history_of_working (.inl hf) htaken
  · exact history_of_working (.inr (.inl rfl)) (payloads := payloads) htaken
  · exact history_shutDown htaken
  · exact htaken.history_raiseFatal .fRd

theorem stepDrain_history {payloads : List (List Byte)} (h : s.HasSent payloads) (hf : s.fsm = .drain)
    (hs : stepDrain s = .next t) : t.History := by
  rcases stepDrain_cases hs with ⟨-, rfl⟩ | ⟨code, -, rfl⟩ | ⟨i, n, -, he⟩
  · refine history_of_working ?_ (payloads := payloads) h
    rw [endDrain_fsm]
    split <;> simp
  · exact h.history_raiseFatal code
  · have hframe := exec_consume_frame he
    rw [← hframe] at h hf
    exact history_of_working (.inr (.inl hf)) (payloads := payloads) h

theorem stepEmit_history {payloads : List (List Byte)} (h : s.HasSent payloads) (hs : stepEmit s = .next t) :
    t.History := by
  obtain ⟨c, prepared, payload, -, -, hp, -, -, rfl⟩ := stepEmit_cases hs
  have hframe := prepareSnapshot_frame hp
  have hgeometry : prepared.geometry = s.geometry := (congrArg State.geometry hframe :)
  have hparams : prepared.params = s.params := (congrArg State.params hframe :)
  have hout : prepared.out ++ frame payload = packets prepared.geometry (payloads ++ [payload]) := by
    rw [prepareSnapshot_out hp, h.1, hgeometry, packets_concat]
  have hcalls : prepared.calls = callsAfter prepared.params (payloads ++ [payload]).length := by
    rw [prepareSnapshot_calls hp, h.2, hparams, List.length_append, List.length_singleton, callsAfter_succ]
  exact history_emitPacket (history_of_working (.inl rfl) (payloads := payloads ++ [payload]) ⟨hout, hcalls⟩)
    ⟨_, hout⟩ ⟨_, hcalls⟩

end Sys2Proof.Machine
end

section
/-! SUPPORT. The decoder on the bytes of an instruction, and the parser's pass on a command it has found. -/

namespace Sys2Proof

/-! ## Decode of encode (R80, R82, R86) -/

theorem decodeOp_len (op : Byte) (args : List Byte) : (decodeOp op args).len = 1 + args.length := by
  unfold decodeOp
  iterate 12 refine iteInduction (motive := fun i => Instr.len i = 1 + args.length) (fun _ => rfl) fun _ => ?_
  rfl

/-- LEN of a decoded command is the number of bytes after its header (R80). -/
theorem decodeBody_len (body : List Byte) : (decodeBody body).len = body.length := by
  cases body with
  | nil => rfl
  | cons op args => rw [decodeBody, decodeOp_len, List.length_cons, Nat.add_comm]

/-- An opcode of an ignored range as a number: above, the bits its row fixes, and below, those it leaves
free (R86, R101). -/
theorem toNat_append_eq_add {m n : Nat} (fixed : BitVec m) (low : BitVec n) :
    (fixed ++ low).toNat = 2 ^ n * fixed.toNat + low.toNat := by
  rw [BitVec.toNat_append, ← Nat.shiftLeft_add_eq_or_of_lt low.isLt, Nat.shiftLeft_eq, Nat.mul_comm]

/-- The opcode map past the defined opcodes: the ranges of R120. -/
theorem decodeOp_of_eight_le {op : Byte} (h : 8 ≤ op.toNat) (args : List Byte) :
    decodeOp op args =
      if op.toNat < 0x10 then .ign08To0F (op.setWidth 3) args
      else if op.toNat < 0x20 then .ign10To1F (op.setWidth 4) args
      else if op.toNat < 0x40 then .ign20To3F (op.setWidth 5) args
      else if op.toNat < 0x80 then .ign40To7F (op.setWidth 6) args
      else .ign80ToFF (op.setWidth 7) args := by
  unfold decodeOp
  iterate 8 rw [if_neg (by omega)]

/-- The opcode map reads back every instruction's own opcode (R86). -/
theorem decodeOp_opcode {i : Instr} {op : Byte} (h : i.opcode = some op) : decodeOp op i.args = i := by
  cases i with
  | hdr0 => cases h
  | ign08To0F low args =>
    obtain rfl := Option.some.inj h
    have hlt := low.isLt
    have hop : (0b00001#5 ++ low).toNat = 8 + low.toNat := toNat_append_eq_add _ low
    rw [decodeOp_of_eight_le (by omega), if_pos (by omega), BitVec.setWidth_append_eq_right, Instr.args]
  | ign10To1F low args =>
    obtain rfl := Option.some.inj h
    have hlt := low.isLt
    have hop : (0b0001#4 ++ low).toNat = 16 + low.toNat := toNat_append_eq_add _ low
    rw [decodeOp_of_eight_le (by omega), if_neg (by omega), if_pos (by omega), BitVec.setWidth_append_eq_right,
      Instr.args]
  | ign20To3F low args =>
    obtain rfl := Option.some.inj h
    have hlt := low.isLt
    have hop : (0b001#3 ++ low).toNat = 32 + low.toNat := toNat_append_eq_add _ low
    rw [decodeOp_of_eight_le (by omega), if_neg (by omega), if_neg (by omega), if_pos (by omega),
      BitVec.setWidth_append_eq_right, Instr.args]
  | ign40To7F low args =>
    obtain rfl := Option.some.inj h
    have hlt := low.isLt
    have hop : (0b01#2 ++ low).toNat = 64 + low.toNat := toNat_append_eq_add _ low
    rw [decodeOp_of_eight_le (by omega), if_neg (by omega), if_neg (by omega), if_neg (by omega), if_pos (by omega),
      BitVec.setWidth_append_eq_right, Instr.args]
  | ign80ToFF low args =>
    obtain rfl := Option.some.inj h
    have hop : (0b1#1 ++ low).toNat = 128 + low.toNat := toNat_append_eq_add _ low
    rw [decodeOp_of_eight_le (by omega), if_neg (by omega), if_neg (by omega), if_neg (by omega), if_neg (by omega),
      BitVec.setWidth_append_eq_right, Instr.args]
  | _ =>
    obtain rfl := Option.some.inj h
    rfl

/-- HDR0 alone has no opcode (R81, R91). -/
theorem opcode_eq_none_iff {i : Instr} : i.opcode = none ↔ i = .hdr0 := by
  cases i <;> simp [Instr.opcode]

theorem len_of_opcode {i : Instr} {op : Byte} (h : i.opcode = some op) : i.len = 1 + i.args.length := by
  rw [← decodeOp_opcode h, decodeOp_len, decodeOp_opcode h]

/-- The bytes an instruction has after its header decode to it. -/
theorem decodeBody_encode (i : Instr) : decodeBody (i.opcode.toList ++ i.args) = i := by
  cases h : i.opcode with
  | none => rw [opcode_eq_none_iff.mp h]; rfl
  | some op => exact decodeOp_opcode h

/-- LEN of a well-formed instruction fits its byte (R80). -/
theorem len_lt_of_wf {i : Instr} (hw : i.wf = true) : i.len < 256 := by
  have hargs : i.args.length ≤ 254 := by simpa [Instr.wf] using hw
  cases h : i.opcode with
  | none => rw [opcode_eq_none_iff.mp h]; decide
  | some op => rw [len_of_opcode h]; omega

/-- The bytes of a well-formed instruction decode to it, whatever follows (R80, R82). -/
theorem decode_encode {i : Instr} (hw : i.wf = true) (rest : List Byte) : decode (encode i ++ rest) = .ok (i, rest) := by
  refine decode_ok_iff.mpr ⟨BitVec.ofNat 8 i.len, i.opcode.toList ++ i.args, by simp [encode], ?_,
    (decodeBody_encode i).symm⟩
  rw [← decodeBody_len, decodeBody_encode, BitVec.toNat_ofNat, Nat.mod_eq_of_lt (len_lt_of_wf hw)]

end Sys2Proof

namespace Sys2Proof.Machine

/-! ## One pass of the parser loop -/

theorem step_of_drain {s : State} (hf : s.fsm = .drain) : step s = stepDrain s := by rw [step, hf]

theorem step_of_emit {s : State} (hf : s.fsm = .emit) : step s = stepEmit s := by rw [step, hf]

theorem stepDrain_of_command {s : State} {i : Instr} {n : Nat} (h : fetch s.params.inCap s.ibuf = .command i n) :
    stepDrain s = exec i (consume n s) := by rw [stepDrain, h]

/-- What the parser finds where the bytes of IBUF decode to an instruction that fits IN_CAP, and that
consuming it leaves the bytes after it (R110, R111). -/
theorem fetch_of_decode {cap : Nat} {ibuf rest : List Byte} {i : Instr} (hd : decode ibuf = .ok (i, rest))
    (hsize : i.size ≤ cap) : fetch cap ibuf = .command i i.size ∧ ibuf.drop i.size = rest := by
  obtain ⟨len, body, rfl, hlen, rfl⟩ := decode_ok_iff.mp hd
  have hbody : (decodeBody body).size = 4 + body.length := by rw [Instr.size, decodeBody_len]
  refine ⟨fetch_command_iff.mpr ⟨len, rest, header_ok_iff.mpr ⟨_, rfl⟩, hd, by rw [hbody, hlen], hsize⟩, ?_⟩
  simp [hbody, Nat.add_comm 4]

/-- Execute always answers a next state, and IBUF is as it was (R112). -/
theorem exec_total (i : Instr) (s : State) : ∃ t, exec i s = .next t ∧ t.ibuf = s.ibuf := by
  rcases exec_cases i s with ⟨f, -, he⟩ | ⟨v, rest, -, he⟩ | ⟨m, rest, -, he⟩ | ⟨-, he⟩ <;>
    exact ⟨_, he, rfl⟩

end Sys2Proof.Machine
end

section
/-! SUPPORT. In a legal state every access of a snapshot cycle is inside its array, so that the capture, the
dithering engine and each converter answer, with a payload that R8 bounds (R66, R202). -/

namespace Sys2Proof.Machine

variable {s : State}

theorem collect_of_forall_ok {α : Type} {xs : List (Except Fault α)} (h : ∀ x ∈ xs, ∃ a, x = .ok a) :
    ∃ as, collect xs = .ok as ∧ as.length = xs.length := by
  induction xs with
  | nil => exact ⟨[], rfl, rfl⟩
  | cons x xs ih =>
    obtain ⟨a, rfl⟩ := h x List.mem_cons_self
    obtain ⟨as, has, hlen⟩ := ih fun y hy => h y (List.mem_cons_of_mem _ hy)
    exact ⟨a :: as, by rw [collect, has], by simp [hlen]⟩

/-- What R8 asks of W, H and S. -/
theorem legalGeometry_iff {w h stride : Nat} :
    legalGeometry w h stride = true ↔ w ≤ stride ∧ 4 + 3 * w * h ≤ 2 ^ 32 - 1 := by
  simp [legalGeometry]

theorem State.Legal.readPixel_ok (hs : s.Legal) {x y : Nat} (hx : x < s.width) (hy : y < s.height) :
    ∃ p, s.readPixel x y = .ok p := by
  obtain ⟨hstride, -⟩ := legalGeometry_iff.mp hs.geometryLegal
  obtain ⟨-, hraster, -⟩ := hs.memory
  exact ⟨_, readElement_of_lt .raster (hraster ▸ index_lt hx hstride hy)⟩

theorem State.Legal.readDecision_ok (hs : s.Legal) {x y : Nat} (hx : x < s.width) (hy : y < s.height) :
    ∃ e, s.readDecision x y = .ok e := by
  obtain ⟨-, -, hdbuf⟩ := hs.memory
  exact ⟨_, readElement_of_lt .dbuf (hdbuf ▸ index_lt hx (Nat.le_refl _) hy)⟩

theorem State.Legal.logicalPixels_ok (hs : s.Legal) :
    ∃ pixels, s.logicalPixels = .ok pixels ∧ pixels.length = s.width * s.height := by
  obtain ⟨pixels, hpixels, -⟩ := collect_of_forall_ok
    (xs := (rowMajor s.width s.height).map fun pos => s.readPixel pos.1 pos.2) <| by
      simp only [List.mem_map]
      rintro x ⟨pos, hpos, rfl⟩
      obtain ⟨hx, hy⟩ := mem_rowMajor.mp hpos
      exact hs.readPixel_ok hx hy
  exact ⟨pixels, hpixels, logicalPixels_length hpixels⟩

theorem State.Legal.pixelOn_ok (hs : s.Legal) {x y : Nat} (hx : x < s.width) (hy : y < s.height) :
    ∃ on, s.pixelOn x y = .ok on := by
  unfold State.pixelOn
  split
  · obtain ⟨e, he⟩ := hs.readDecision_ok hx hy
    exact ⟨_, by rw [he]⟩
  · obtain ⟨p, hp⟩ := hs.readPixel_ok hx hy
    exact ⟨_, by rw [hp]⟩

/-! ## The capture and the dithering engine -/

theorem State.Legal.ditherEntries_ok (hs : s.Legal) : ∃ d, ditherEntries s = .ok d := by
  obtain ⟨pixels, hpixels, hlen⟩ := hs.logicalPixels_ok
  obtain ⟨d, hd, -⟩ := foldlM_ditherPixel_ok (t6 := threshold6 s.thrG) (scan s.width s.height)
    (d := pixels.map fun p => BitVec.ofNat 16 (intensity p)) (by simpa using hlen) fun pos hpos => mem_scan.mp hpos
  exact ⟨d, by simp only [ditherEntries, initialEntries, hpixels, hd]⟩

theorem dithers_iff : s.dithers = true ↔ s.ditherMode ≠ 0 := by simp [State.dithers]

theorem prepareSnapshot_undithered (hm : s.ditherMode = 0) : prepareSnapshot s = .ok (capture s) := by
  rw [prepareSnapshot, if_neg (mt dithers_iff.mp (not_not.mpr hm))]

theorem prepareSnapshot_dithered (hm : s.ditherMode ≠ 0) : prepareSnapshot s = dither (capture s) := by
  rw [prepareSnapshot, if_pos (dithers_iff.mpr hm)]

theorem State.Legal.prepareSnapshot_ok (hs : s.Legal) : ∃ p, Machine.prepareSnapshot s = .ok p := by
  by_cases hm : s.ditherMode = 0
  · exact ⟨_, prepareSnapshot_undithered hm⟩
  · obtain ⟨d, hd⟩ := hs.capture.ditherEntries_ok
    exact ⟨_, by rw [prepareSnapshot_dithered hm, dither, hd]⟩

/-- The capture alone takes a choice of the environment (R226). -/
theorem prepareSnapshot_env {s p : State} (h : prepareSnapshot s = .ok p) : p.env = (takeFrame s).env := by
  rcases prepareSnapshot_cases h with ⟨-, rfl⟩ | ⟨d, -, -, rfl⟩ <;> rfl

/-! ## The converters -/

theorem State.Legal.monoByte_ok (hs : s.Legal) {at_ : Nat → Nat × Nat}
    (hat : ∀ i < 8, (at_ i).1 < s.width ∧ (at_ i).2 < s.height) : ∃ b, monoByte s at_ = .ok b := by
  obtain ⟨bits, hbits, -⟩ := collect_of_forall_ok
    (xs := (List.range 8).map fun i => s.pixelOn (at_ i).1 (at_ i).2) <| by
      simp only [List.mem_map, List.mem_range]
      rintro x ⟨i, hi, rfl⟩
      obtain ⟨hx, hy⟩ := hat i hi
      exact hs.pixelOn_ok hx hy
  exact ⟨packBits bits, by simp only [monoByte, hbits]⟩

theorem State.Legal.encMono_ok (hs : s.Legal) :
    ∃ payload, encMono s = .ok payload ∧ payload.length = s.height * (s.width / 8) := by
  obtain ⟨payload, hpayload, hlen⟩ := collect_of_forall_ok
    (xs := (List.range s.height).flatMap fun y =>
      (List.range (s.width / 8)).map fun g => monoByte s fun i => (8 * g + i, y)) <| by
      simp only [List.mem_flatMap, List.mem_map, List.mem_range]
      rintro x ⟨y, hy, g, hg, rfl⟩
      exact hs.monoByte_ok fun i hi => ⟨by dsimp only; omega, hy⟩
  exact ⟨payload, hpayload, by simpa [List.length_flatMap] using hlen⟩

theorem State.Legal.encMonoCol_ok (hs : s.Legal) :
    ∃ payload, encMonoCol s = .ok payload ∧ payload.length = s.width * (s.height / 8) := by
  obtain ⟨payload, hpayload, hlen⟩ := collect_of_forall_ok
    (xs := (List.range s.width).flatMap fun x =>
      (List.range (s.height / 8)).map fun g => monoByte s fun i => (x, 8 * g + i)) <| by
      simp only [List.mem_flatMap, List.mem_map, List.mem_range]
      rintro x ⟨x, hx, g, hg, rfl⟩
      exact hs.monoByte_ok fun i hi => ⟨hx, by dsimp only; omega⟩
  exact ⟨payload, hpayload, by simpa [List.length_flatMap] using hlen⟩

/-- Each converter answers at most three bytes for each pixel (R175 to R178). -/
theorem State.Legal.payload_ok (hs : s.Legal) (c : Converter) :
    ∃ payload, c.payload s = .ok payload ∧ payload.length ≤ 3 * (s.width * s.height) := by
  obtain ⟨pixels, hpixels, hlen⟩ := hs.logicalPixels_ok
  cases c with
  | enc24 =>
    refine ⟨pixels.flatMap direct24, by simp only [Converter.payload, Machine.enc24, hpixels], ?_⟩
    simp [List.length_flatMap, direct24, hlen, Nat.mul_comm]
  | enc16 =>
    refine ⟨pixels.flatMap le16, by simp only [Converter.payload, Machine.enc16, hpixels], ?_⟩
    have hbytes : (pixels.flatMap le16).length = 2 * (s.width * s.height) := by
      simp [List.length_flatMap, hlen, Nat.mul_comm]
    omega
  | encMono =>
    obtain ⟨payload, hpayload, hbytes⟩ := hs.encMono_ok
    have hle : s.height * (s.width / 8) ≤ s.height * s.width := Nat.mul_le_mul_left _ (Nat.div_le_self _ _)
    rw [Nat.mul_comm s.height s.width] at hle
    exact ⟨payload, hpayload, by omega⟩
  | encMonoCol =>
    obtain ⟨payload, hpayload, hbytes⟩ := hs.encMonoCol_ok
    have hle : s.width * (s.height / 8) ≤ s.width * s.height := Nat.mul_le_mul_left _ (Nat.div_le_self _ _)
    exact ⟨payload, hpayload, by omega⟩

/-- In a legal state a snapshot whose converter accepts the geometry comes to its packet write (R66, R228). -/
theorem State.Legal.stepEmit_ok (hs : s.Legal) {c : Converter} (hc : converterOf s.pendingFmt = some c)
    (ha : c.accepts s = true) :
    ∃ prepared payload, Machine.prepareSnapshot s = .ok prepared ∧ c.payload prepared = .ok payload ∧
      stepEmit s = .next (emitPacket (frame payload) endSnapshot prepared) := by
  obtain ⟨prepared, hp⟩ := hs.prepareSnapshot_ok
  have hprepared := hs.prepareSnapshot hp
  obtain ⟨payload, hpayload, hlen⟩ := hprepared.payload_ok c
  obtain ⟨-, hfits⟩ := legalGeometry_iff.mp hprepared.geometryLegal
  rw [Nat.mul_assoc] at hfits
  have hheader : payload.length < 2 ^ 32 := by omega
  exact ⟨prepared, payload, hp, hpayload, by simp only [stepEmit, hc, ha, hp, hpayload, hheader, if_true]⟩

/-! ## DITHER_MODE is read as zero or not (R26, R150) -/

section DitherMode

variable {m : Byte} (hm : (writeDitherMode m s).dithers = s.dithers)
include hm

theorem pixelOn_writeDitherMode (x y : Nat) : (writeDitherMode m s).pixelOn x y = s.pixelOn x y := by
  rw [State.pixelOn, hm]
  rfl

theorem monoByte_writeDitherMode (at_ : Nat → Nat × Nat) : monoByte (writeDitherMode m s) at_ = monoByte s at_ := by
  simp only [monoByte, pixelOn_writeDitherMode hm]

theorem payload_writeDitherMode (c : Converter) : c.payload (writeDitherMode m s) = c.payload s := by
  cases c with
  | enc24 => rfl
  | enc16 => rfl
  | encMono => simp only [Converter.payload, encMono, monoByte_writeDitherMode hm]; rfl
  | encMonoCol => simp only [Converter.payload, encMonoCol, monoByte_writeDitherMode hm]; rfl

theorem prepareSnapshot_writeDitherMode {p : State} (hp : prepareSnapshot s = .ok p) :
    prepareSnapshot (writeDitherMode m s) = .ok (writeDitherMode m p) := by
  rcases prepareSnapshot_cases hp with ⟨hd, rfl⟩ | ⟨d, hd, he, rfl⟩
  · simp only [prepareSnapshot, hm, hd, Bool.false_eq_true, if_false]
    rfl
  · have he' : ditherEntries (capture (writeDitherMode m s)) = .ok d := he
    simp only [prepareSnapshot, hm, hd, if_true, dither, he']
    rfl

end DitherMode

theorem emitPacket_writeDitherMode (packet : List Byte) (m : Byte) (s : State) :
    emitPacket packet endSnapshot (writeDitherMode m s) = writeDitherMode m (emitPacket packet endSnapshot s) := by
  have hw : (writeDitherMode m s).writeOutcome = s.writeOutcome := rfl
  unfold emitPacket
  rw [hw]
  cases s.writeOutcome <;> rfl

/-- Two modes of which both or neither are zero give the same snapshot cycle (R26, R150). -/
theorem stepEmit_writeDitherMode {m : Byte} {t : State} (hm : (writeDitherMode m s).dithers = s.dithers)
    (hs : stepEmit s = .next t) : stepEmit (writeDitherMode m s) = .next (writeDitherMode m t) := by
  obtain ⟨c, prepared, payload, hc, ha, hp, hpayload, hlen, rfl⟩ := stepEmit_cases hs
  have hprepared : (writeDitherMode m prepared).dithers = prepared.dithers := by
    have hmode : prepared.ditherMode = s.ditherMode := (congrArg State.ditherMode (prepareSnapshot_frame hp) :)
    rwa [State.dithers, State.dithers, hmode]
  have ha' : c.accepts (writeDitherMode m s) = true := ha
  simp only [stepEmit, writeDitherMode_pendingFmt, hc, ha', prepareSnapshot_writeDitherMode hm hp,
    payload_writeDitherMode hprepared, hpayload, hlen, if_true, emitPacket_writeDitherMode]

end Sys2Proof.Machine
end

section
/-! SUPPORT. The reset state, and the frame of each part of the Driver: what a step from INIT, AWAIT, DRAIN
or EMIT can write at all, and what INIT and EMIT do to RASTER and DBUF. -/

namespace Sys2Proof.Machine

variable {s t : State}

/-! ## Reset (R40) -/

theorem inv_resetWith (v : Byte) (e : Environment) {p : Params} (hcap : 6 ≤ p.inCap) :
    (State.resetWith v p e).Inv where
  capacityFloor := hcap
  memory := Memory.wf_resetWith v p e
  inputParsed := by simp [State.resetWith]
  awaitIdle := by simp [State.resetWith]
  emitPending := by simp [State.resetWith]
  formatLegal := Nat.zero_le 5
  thresholds := ⟨v, rfl, rfl, rfl⟩
  geometryLegal := rfl
  initFresh := fun _ => ⟨rfl, rfl, rfl, rfl⟩
  statusAgrees := rfl

theorem history_of_init (hf : s.fsm = .init) (hout : s.out = []) (hcalls : s.calls = []) : s.History where
  atInit := fun _ => ⟨hout, hcalls⟩
  atWork := by simp [hf]
  atShutdown := by simp [hf]
  atFailure := by simp [hf]

/-! ## STATUS (R33) -/

theorem fsm_of_exitOk {f : Fsm} (h : statusAgrees f .exitOk = true) : f = .shutdown := by
  cases f <;> simp_all [statusAgrees]

theorem fsm_of_exitFail {f : Fsm} {code : FatalCode} (h : statusAgrees f (.exitFail code) = true) : f = .failed := by
  cases f <;> simp_all [statusAgrees]

/-! ## What a step of each part of the Driver can write -/

theorem latchGeometry_frame (g : Geometry) (s : State) :
    { latchGeometry g (askedProvider s) with
      geometry := s.geometry, raster := s.raster, dbuf := s.dbuf, calls := s.calls, env := s.env } = s := by
  simp [askedProvider]

/-- INIT writes the geometry and the arrays it sizes, FSM, STATUS, OUT and the model's own records (R221). -/
theorem stepInit_frame (h : stepInit s = .next t) :
    { t with
      pendingFmt := s.pendingFmt, geometry := s.geometry, raster := s.raster, dbuf := s.dbuf, fsm := s.fsm
      status := s.status, out := s.out, calls := s.calls, env := s.env } = s := by
  rcases stepInit_cases h with ⟨-, rfl⟩ | ⟨r, -, -, rfl⟩
  · rfl
  · have hwrite := emitPacket_frame (frame (capability (latch r))) (k := setFsm .await)
      (latchGeometry (latch r) (askedProvider s)) fun _ => rfl
    have hlatched := latchGeometry_frame (latch r) s
    generalize latchGeometry (latch r) (askedProvider s) = latched at hwrite hlatched ⊢
    exact (congrArg (fun u : State => { u with
      pendingFmt := s.pendingFmt, geometry := s.geometry, raster := s.raster, dbuf := s.dbuf, fsm := s.fsm
      status := s.status, out := s.out, calls := s.calls, env := s.env }) hwrite).trans
      (congrArg (fun u : State => { u with
        pendingFmt := s.pendingFmt, fsm := s.fsm, status := s.status, out := s.out }) hlatched)

/-- AWAIT writes IBUF, FSM, STATUS and the model's own records (R222, R223, R230, R231). -/
theorem stepAwait_frame (h : stepAwait s = .next t) :
    { t with ibuf := s.ibuf, fsm := s.fsm, status := s.status, calls := s.calls, env := s.env } = s := by
  rcases stepAwait_cases h with ⟨-, rfl⟩ | ⟨c, -, -, rfl⟩ | ⟨-, rfl⟩ | ⟨-, rfl⟩ <;> rfl

/-- DRAIN writes the configuration registers, PENDING_FMT, IBUF, FSM, STATUS and the model's own records
(R110, R112, R225). -/
theorem stepDrain_frame (h : stepDrain s = .next t) :
    { t with
      thrR := s.thrR, thrG := s.thrG, thrB := s.thrB, ditherMode := s.ditherMode, pendingFmt := s.pendingFmt
      ibuf := s.ibuf, fsm := s.fsm, status := s.status, calls := s.calls, env := s.env } = s := by
  rcases stepDrain_cases h with ⟨-, rfl⟩ | ⟨code, -, rfl⟩ | ⟨i, n, -, he⟩
  · rfl
  · rfl
  · exact congrArg (fun u : State => { u with
      fsm := s.fsm, status := s.status, calls := s.calls, env := s.env }) (exec_consume_frame he)

/-- EMIT writes RASTER, DBUF, PENDING_FMT, FSM, STATUS, OUT and the model's own records (R228). -/
theorem stepEmit_frame (h : stepEmit s = .next t) :
    { t with
      pendingFmt := s.pendingFmt, raster := s.raster, dbuf := s.dbuf, fsm := s.fsm, status := s.status
      out := s.out, calls := s.calls, env := s.env } = s := by
  obtain ⟨c, prepared, payload, -, -, hp, -, -, rfl⟩ := stepEmit_cases h
  have hwrite := emitPacket_frame (frame payload) (k := endSnapshot) prepared fun _ => rfl
  exact (congrArg (fun u : State => { u with
    pendingFmt := s.pendingFmt, raster := s.raster, dbuf := s.dbuf, fsm := s.fsm, status := s.status
    out := s.out, calls := s.calls, env := s.env }) hwrite).trans
    (congrArg (fun u : State => { u with
      pendingFmt := s.pendingFmt, fsm := s.fsm, status := s.status, out := s.out }) (prepareSnapshot_frame hp))

/-! ## RASTER and DBUF -/

/-- INIT leaves the arrays where the provider answers an error, and else gives them their sizes (R66). -/
theorem stepInit_arrays (h : stepInit s = .next t) :
    (s.initAnswer = .error → t.raster = s.raster ∧ t.dbuf = s.dbuf) ∧
    (s.initAnswer ≠ .error → t.raster.length = t.stride * t.height ∧ t.dbuf.length = t.width * t.height) := by
  rcases stepInit_cases h with ⟨ha, rfl⟩ | ⟨r, ha, -, rfl⟩
  · exact ⟨fun _ => ⟨rfl, rfl⟩, absurd ha⟩
  · refine ⟨by simp [ha], fun _ => ?_⟩
    have hwrite := emitPacket_frame (frame (capability (latch r))) (k := setFsm .await)
      (latchGeometry (latch r) (askedProvider s)) fun _ => rfl
    have hsizes := And.intro (latchGeometry_raster_length (latch r) (askedProvider s))
      (latchGeometry_dbuf_length (latch r) (askedProvider s))
    rw [← hwrite] at hsizes
    exact hsizes

/-- EMIT replaces RASTER by the captured words, and DBUF only where dithering is on, by its decisions (R226,
R227, entry 19). -/
theorem stepEmit_arrays (h : stepEmit s = .next t) :
    t.raster = (List.range (s.stride * s.height)).map s.capturedWord ∧ (s.ditherMode = 0 → t.dbuf = s.dbuf) ∧
      (s.ditherMode ≠ 0 → ditherEntries (capture s) = .ok t.dbuf) := by
  obtain ⟨c, prepared, payload, -, -, hp, -, -, rfl⟩ := stepEmit_cases h
  have hframe := emitPacket_frame (frame payload) (k := endSnapshot) prepared fun _ => rfl
  have hraster : (emitPacket (frame payload) endSnapshot prepared).raster = prepared.raster :=
    (congrArg State.raster hframe :)
  have hdbuf : (emitPacket (frame payload) endSnapshot prepared).dbuf = prepared.dbuf :=
    (congrArg State.dbuf hframe :)
  rw [hraster, hdbuf]
  refine ⟨prepareSnapshot_raster hp, fun hm => ?_, fun hm => ?_⟩
  · obtain rfl := Except.ok.inj ((prepareSnapshot_undithered hm).symm.trans hp)
    rfl
  · obtain ⟨d, hd, rfl⟩ := dither_ok ((prepareSnapshot_dithered hm).symm.trans hp)
    exact hd

end Sys2Proof.Machine
end

section
/-! The statements of the family 10_state.md, from the lemmas above. -/

namespace Sys2Proof.Machine

/-- Settles O10: the parser finds the decoded command, and consuming its bytes leaves the rest. -/
theorem stepRunsDecodedInstruction : Obligations.StepRunsDecodedInstruction := by
  intro s i rest hf hd hsize
  obtain ⟨hfetch, hdrop⟩ := fetch_of_decode hd hsize
  rw [step_of_drain hf, stepDrain_of_command hfetch, consume, hdrop]

/-- Settles O11: decode inverts encode, so that the step is the command's execution, which always completes. -/
theorem commandConsumesItsBytes : Obligations.CommandConsumesItsBytes := by
  intro s i rest hf hibuf hw hsize
  have hd : decode s.ibuf = .ok (i, rest) := by rw [hibuf, decode_encode hw]
  obtain ⟨t, he, ht⟩ := exec_total i { s with ibuf := rest }
  exact ⟨t, (stepRunsDecodedInstruction s i rest hf hd hsize).trans he, ht, he⟩

/-- Settles O19: the three values are functions of t / 4. -/
theorem thresholdsDependOnTopSixBits : Obligations.ThresholdsDependOnTopSixBits := by
  have heighth (t : Byte) : t.toNat / 8 = t.toNat / 4 / 2 := (Nat.div_div_eq_div_mul _ 4 2).symm
  refine ⟨fun t => ⟨?_, thresholdG_toNat t, ?_, ?_⟩, fun t u s htu => ?_⟩
  · have := t.isLt
    omega
  · rw [thresholdR_toNat, heighth]
  · rw [thresholdB_toNat, heighth]
  · simp only [writeThresholds, thresholdR_eq_ofNat, thresholdG_eq_ofNat, thresholdB_eq_ofNat, heighth, htu]

/-- Settles O43: in a legal state the cycle comes to its packet write, and the accepted write ends it. -/
theorem snapshotCycleCompletes : Obligations.SnapshotCycleCompletes := by
  intro s c hinv hf hc ha hw
  obtain ⟨prepared, payload, hp, hpayload, hs⟩ := hinv.legal.stepEmit_ok hc ha
  have haccepted : prepared.writeOutcome = .accepted := by
    rw [← hw, State.writeOutcome, State.writeOutcome, prepareSnapshot_env hp]
  rw [emitPacket_accepted haccepted] at hs
  have hout : prepared.out ++ frame payload = s.out ++ frame payload := by rw [prepareSnapshot_out hp]
  have hcalls := prepareSnapshot_calls hp
  refine ⟨_, prepared, payload, (step_of_emit hf).trans hs, fun hm => ?_, fun hm => ?_, hpayload, hout, rfl, rfl, hcalls,
    rfl, rfl, ?_⟩
  · exact Except.ok.inj (hp.symm.trans (prepareSnapshot_undithered hm))
  · exact (prepareSnapshot_dithered hm).symm.trans hp
  · exact congrArg (fun u : State => { u with out := s.out, pendingFmt := s.pendingFmt, fsm := s.fsm })
      (prepareSnapshot_frame hp)

/-- Settles O47: the snapshot cycle reads DITHER_MODE as zero or not, and both bytes are nonzero. -/
theorem nonzeroModesAgree : Obligations.NonzeroModesAgree := by
  intro s t m n hm hn hstep
  have hs : stepEmit { s with fsm := .emit, ditherMode := m } = .next t := (step_of_emit rfl).symm.trans hstep
  have hdithers : (writeDitherMode n { s with fsm := .emit, ditherMode := m }).dithers =
      State.dithers { s with fsm := .emit, ditherMode := m } :=
    (dithers_iff.mpr hn).trans (dithers_iff.mpr hm).symm
  exact ⟨writeDitherMode n t, (step_of_emit rfl).trans (stepEmit_writeDitherMode hdithers hs), rfl⟩

/-- Settles O48: a packet write leaves RASTER as the capture wrote it, and the capture writes every word. -/
theorem everyWordIsCapturedAfresh : Obligations.EveryWordIsCapturedAfresh := by
  intro s t hf hstep
  rw [step_of_emit hf] at hstep
  obtain ⟨hraster, -⟩ := stepEmit_arrays hstep
  rw [hraster]
  refine ⟨by simp, fun k hk => ?_⟩
  simp [hk]

/-- Settles O49: reset derives the thresholds from RESET_T and clears the rest. -/
theorem resetLeavesTheListedValues : Obligations.ResetLeavesTheListedValues := fun t _ _ =>
  ⟨thresholdR_eq_ofNat t, thresholdG_eq_ofNat t, thresholdB_eq_ofNat t, rfl, rfl, rfl, rfl, rfl, rfl⟩

/-- Settles O50: every clause of the invariant, for any parameters that meet R8 and so for those of
`State.reset`. -/
theorem invariantHoldsAtReset : Obligations.InvariantHoldsAtReset :=
  ⟨fun t _ e hcap => inv_resetWith t e hcap, inv_resetWith _ _ (Nat.le_add_left 6 _)⟩

/-- Settles O52: in INIT the history asks only that OUT and the record of the calls are empty. -/
theorem historyHoldsAtReset : Obligations.HistoryHoldsAtReset := fun _ _ _ =>
  history_of_init rfl rfl rfl

/-- Settles O53: each part of the Driver adds nothing, or one whole packet and its capture, to what has been
sent; where the engine stops, what is out already and the calls made are kept. -/
theorem everyStepKeepsTheHistory : Obligations.EveryStepKeepsTheHistory := by
  intro s t _ h hstep
  rcases step_cases hstep with ⟨hf, hs⟩ | ⟨hf, hs⟩ | ⟨hf, hs⟩ | ⟨hf, hs⟩
  · exact stepInit_history h hf hs
  · obtain ⟨payloads, hsent⟩ := h.atWork (.inl hf)
    exact stepAwait_history hsent hf hs
  · obtain ⟨payloads, hsent⟩ := h.atWork (.inr (.inl hf))
    exact stepDrain_history hsent hf hs
  · obtain ⟨payloads, hsent⟩ := h.atWork (.inr (.inr hf))
    exact stepEmit_history hsent hs

/-- Settles O55: only INIT and EMIT write, each one packet. -/
theorem outputGrowsByPackets : Obligations.OutputGrowsByPackets := by
  refine ⟨fun _ _ _ => rfl, fun s t hstep => ?_⟩
  rcases step_cases hstep with ⟨-, hs⟩ | ⟨-, hs⟩ | ⟨-, hs⟩ | ⟨-, hs⟩
  · rcases stepInit_cases hs with ⟨-, rfl⟩ | ⟨r, -, -, rfl⟩
    · exact .inl rfl
    · have hout : (latchGeometry (latch r) (askedProvider s)).out = s.out := by simp [askedProvider]
      rw [← hout]
      rcases emitPacket_out (capability (latch r)) (latchGeometry (latch r) (askedProvider s))
        (setFsm_out .await) with hsent | hcut
      · exact .inr (.inl ⟨_, hsent⟩)
      · exact .inr (.inr ⟨_, hcut⟩)
  · rcases stepAwait_cases hs with ⟨-, rfl⟩ | ⟨c, -, -, rfl⟩ | ⟨-, rfl⟩ | ⟨-, rfl⟩ <;> exact .inl rfl
  · exact .inl (congrArg State.out (stepDrain_frame hs) :)
  · obtain ⟨c, prepared, payload, -, -, hp, -, -, rfl⟩ := stepEmit_cases hs
    rw [← prepareSnapshot_out hp]
    rcases emitPacket_out payload prepared endSnapshot_out with hsent | hcut
    · exact .inr (.inl ⟨payload, hsent⟩)
    · exact .inr (.inr ⟨payload, hcut⟩)

/-- Settles O56: no step is made in a terminal state, and STATUS of the next state is what its FSM says. -/
theorem statusSettlesOnce : Obligations.StatusSettlesOnce := by
  refine ⟨fun _ _ _ => rfl, fun s t hinv hstep => ⟨hinv.running ?_, fun hst => ?_, fun code hst => ?_⟩⟩
  · rcases step_cases hstep with ⟨hf, -⟩ | ⟨hf, -⟩ | ⟨hf, -⟩ | ⟨hf, -⟩ <;> simp [State.terminal, hf]
  · exact fsm_of_exitOk (hst ▸ (everyStepKeepsTheInvariant s t hinv hstep).statusAgrees)
  · exact fsm_of_exitFail (hst ▸ (everyStepKeepsTheInvariant s t hinv hstep).statusAgrees)

/-- Settles O58: of all the operations of a step only SET_THRESHOLD with ARG0 writes a threshold register,
and it writes all three from ARG0. -/
theorem thresholdsAreWrittenTogether : Obligations.ThresholdsAreWrittenTogether := by
  refine ⟨fun v _ _ => ⟨thresholdR_eq_ofNat v, thresholdG_eq_ofNat v, thresholdB_eq_ofNat v⟩, fun s t hstep => ?_⟩
  rcases step_cases hstep with ⟨-, hs⟩ | ⟨-, hs⟩ | ⟨hf, hs⟩ | ⟨-, hs⟩
  · have hframe := stepInit_frame hs
    exact .inl ⟨(congrArg State.thrR hframe :), (congrArg State.thrG hframe :), (congrArg State.thrB hframe :)⟩
  · have hframe := stepAwait_frame hs
    exact .inl ⟨(congrArg State.thrR hframe :), (congrArg State.thrG hframe :), (congrArg State.thrB hframe :)⟩
  · rcases stepDrain_cases hs with ⟨-, rfl⟩ | ⟨code, -, rfl⟩ | ⟨i, n, hfetch, he⟩
    · exact .inl ⟨rfl, rfl, rfl⟩
    · exact .inl ⟨rfl, rfl, rfl⟩
    · rcases exec_cases i (consume n s) with ⟨f, -, h⟩ | ⟨v, extra, rfl, h⟩ | ⟨m, extra, -, h⟩ | ⟨-, h⟩ <;>
        obtain rfl := Host.Outcome.next.inj (h.symm.trans he)
      · exact .inl ⟨rfl, rfl, rfl⟩
      · obtain ⟨-, rest, -, hd, -⟩ := fetch_command_iff.mp hfetch
        exact .inr ⟨v, extra, rest, hf, hd, thresholdR_eq_ofNat v, thresholdG_eq_ofNat v, thresholdB_eq_ofNat v⟩
      · exact .inl ⟨rfl, rfl, rfl⟩
      · exact .inl ⟨rfl, rfl, rfl⟩
  · have hframe := stepEmit_frame hs
    exact .inl ⟨(congrArg State.thrR hframe :), (congrArg State.thrG hframe :), (congrArg State.thrB hframe :)⟩

/-- Settles O60: each part of the Driver, by what it does to RASTER and DBUF. -/
theorem buffersAreWrittenInEmitAlone : Obligations.BuffersAreWrittenInEmitAlone := by
  intro s t hstep
  rcases step_cases hstep with ⟨hf, hs⟩ | ⟨hf, hs⟩ | ⟨hf, hs⟩ | ⟨hf, hs⟩
  · obtain ⟨herror, hready⟩ := stepInit_arrays hs
    exact ⟨fun hni => absurd hf hni, fun _ => herror, fun _ => hready, by simp [hf], by simp [hf]⟩
  · have hframe := stepAwait_frame hs
    exact ⟨fun _ _ => ⟨(congrArg State.raster hframe :), (congrArg State.dbuf hframe :)⟩, by simp [hf], by simp [hf],
      by simp [hf], by simp [hf]⟩
  · have hframe := stepDrain_frame hs
    exact ⟨fun _ _ => ⟨(congrArg State.raster hframe :), (congrArg State.dbuf hframe :)⟩, by simp [hf], by simp [hf],
      by simp [hf], by simp [hf]⟩
  · obtain ⟨-, hundithered, hdithered⟩ := stepEmit_arrays hs
    exact ⟨fun _ hne => absurd hf hne, by simp [hf], by simp [hf], fun _ => hundithered, fun _ => hdithered⟩

end Sys2Proof.Machine
end

section
/-! SUPPORT. Which parts of the Driver can fault at all, what a failed packet write leaves, what becomes of the
planned events and of IBUF. -/

namespace Sys2Proof.Machine

variable {s t : State}

/-! ## Faults (R66, R220) -/

theorem stepInit_ne_fault (s : State) (f : Fault) : stepInit s ≠ .fault f := by
  unfold stepInit
  cases s.initAnswer with
  | error => simp
  | ready r =>
    dsimp only
    split <;> simp

theorem stepAwait_ne_fault (s : State) (f : Fault) : stepAwait s ≠ .fault f := by
  unfold stepAwait
  cases s.hostEvent with
  | none => simp
  | some e =>
    cases e with
    | chunk c =>
      dsimp only
      split <;> simp
    | eof => simp
    | readError => simp

/-- A pass of the parser loop answers a next state whatever IBUF holds (R110, R112, R241). -/
theorem stepDrain_total (s : State) : ∃ t, stepDrain s = .next t := by
  unfold stepDrain
  cases fetch s.params.inCap s.ibuf with
  | wait => exact ⟨_, rfl⟩
  | fatal code => exact ⟨_, rfl⟩
  | command i n =>
    obtain ⟨t, he, -⟩ := exec_total i (consume n s)
    exact ⟨t, he⟩

/-- Each of the formats 1 to 5 selects a converter (R27, R179). -/
theorem converterOf_isSome : ∀ f : BitVec 3, f ≠ 0 → f.toNat ≤ 5 → (converterOf f).isSome = true := by decide

/-- In EMIT a format is pending, and its converter either refuses the geometry or comes to the packet write
with every access inside its array (R66, R181, R202). -/
theorem State.Inv.stepEmit_ne_fault (h : s.Inv) (hf : s.fsm = .emit) (f : Fault) : stepEmit s ≠ .fault f := by
  obtain ⟨c, hc⟩ := Option.isSome_iff_exists.mp (converterOf_isSome _ (h.emitPending hf) h.formatLegal)
  cases ha : c.accepts s with
  | false => simp [stepEmit, hc, ha]
  | true =>
    obtain ⟨prepared, payload, -, -, hs⟩ := h.legal.stepEmit_ok hc ha
    simp [hs]

/-! ## Packet writes (R201, R241) -/

theorem emitPacket_failed {packet : List Byte} {k : State → State} {n : Nat} (h : s.writeOutcome = .failed n) :
    emitPacket packet k s =
      raiseFatal .fWr (appendOut (packet.take (min n (packet.length - 1))) (takeWriteOutcome s)) := by
  rw [emitPacket, h]

/-- The outcome of a snapshot's write is the next one after the capture (R228). -/
theorem prepareSnapshot_writeOutcome {p : State} (h : prepareSnapshot s = .ok p) :
    p.writeOutcome = (takeFrame s).writeOutcome := by
  rw [State.writeOutcome, State.writeOutcome, prepareSnapshot_env h]

/-! ## The planned events and IBUF (R71, R232) -/

theorem emitPacket_events (packet : List Byte) {k : State → State} (s : State)
    (hk : ∀ u, (k u).env = u.env) : (emitPacket packet k s).env.events = s.env.events := by
  rcases emitPacket_cases packet k s with ⟨-, he⟩ | ⟨n, -, he⟩ <;> rw [he]
  · rw [hk]
    rfl
  · rfl

theorem stepInit_events (h : stepInit s = .next t) : t.env.events = s.env.events := by
  rcases stepInit_cases h with ⟨-, rfl⟩ | ⟨r, -, -, rfl⟩
  · rfl
  · rw [emitPacket_events _ _ (setFsm_env .await)]
    rfl

theorem stepDrain_events (h : stepDrain s = .next t) : t.env.events = s.env.events := by
  rcases stepDrain_cases h with ⟨-, rfl⟩ | ⟨code, -, rfl⟩ | ⟨i, n, -, he⟩
  · rfl
  · rfl
  · have henv : t.env = s.env := (congrArg State.env (exec_consume_frame he) :)
    rw [henv]

theorem stepEmit_events (h : stepEmit s = .next t) : t.env.events = s.env.events := by
  obtain ⟨c, prepared, payload, -, -, hp, -, -, rfl⟩ := stepEmit_cases h
  rw [emitPacket_events _ _ endSnapshot_env, prepareSnapshot_env hp]
  rfl

/-- A pass of the parser loop keeps IBUF or consumes one command from its front (R111). -/
theorem stepDrain_ibuf_suffix (h : stepDrain s = .next t) : t.ibuf <:+ s.ibuf := by
  rcases stepDrain_cases h with ⟨-, rfl⟩ | ⟨code, -, rfl⟩ | ⟨i, n, -, he⟩
  · exact List.suffix_rfl
  · exact List.suffix_rfl
  · have hibuf : t.ibuf = s.ibuf.drop n := (congrArg State.ibuf (exec_frame he) :)
    exact hibuf ▸ List.drop_suffix n s.ibuf

end Sys2Proof.Machine
end

section
/-! The statements of the family 20_memory.md, from the lemmas above. -/

namespace Sys2Proof.Machine

/-- Settles O54: INIT, AWAIT and DRAIN never fault, and under the invariant neither does EMIT. -/
theorem noIndexLeavesItsArray : Obligations.NoIndexLeavesItsArray := by
  intro s f hinv hstep
  unfold step at hstep
  cases hf : s.fsm <;> simp only [hf] at hstep
  case init => exact absurd hstep (stepInit_ne_fault s f)
  case await => exact absurd hstep (stepAwait_ne_fault s f)
  case drain =>
    obtain ⟨t, hs⟩ := stepDrain_total s
    exact absurd (hs.symm.trans hstep) (by simp)
  case emit => exact absurd hstep (hinv.stepEmit_ne_fault hf f)
  case shutdown => exact ⟨(Host.Outcome.fault.inj hstep).symm, by simp [State.terminal, hf]⟩
  case failed => exact ⟨(Host.Outcome.fault.inj hstep).symm, by simp [State.terminal, hf]⟩

/-- Settles O44: in a legal state the cycle comes to its packet write, and the failed write sends less than the
packet's bytes. -/
theorem failedSnapshotWriteIsFatal : Obligations.FailedSnapshotWriteIsFatal := by
  intro s c n hinv hf hc ha hw
  obtain ⟨prepared, payload, hp, hpayload, hs⟩ := hinv.legal.stepEmit_ok hc ha
  rw [emitPacket_failed ((prepareSnapshot_writeOutcome hp).trans hw)] at hs
  refine ⟨_, prepared, payload, min n ((frame payload).length - 1), (step_of_emit hf).trans hs, hp, hpayload, rfl, rfl,
    ?_, ?_⟩
  · rw [frame_length]
    omega
  · rw [← prepareSnapshot_out hp]
    rfl

/-- Settles O59: INIT and EMIT do not reach IBUF, a pass of DRAIN drops bytes from its front, and none of the
three takes an event. -/
theorem onlyAwaitTakesInput : Obligations.OnlyAwaitTakesInput := by
  intro s t hna hstep
  rcases step_cases hstep with ⟨-, hs⟩ | ⟨hf, -⟩ | ⟨-, hs⟩ | ⟨-, hs⟩
  · have hibuf : t.ibuf = s.ibuf := (congrArg State.ibuf (stepInit_frame hs) :)
    exact ⟨stepInit_events hs, hibuf ▸ List.suffix_rfl⟩
  · exact absurd hf hna
  · exact ⟨stepDrain_events hs, stepDrain_ibuf_suffix hs⟩
  · have hibuf : t.ibuf = s.ibuf := (congrArg State.ibuf (stepEmit_frame hs) :)
    exact ⟨stepEmit_events hs, hibuf ▸ List.suffix_rfl⟩

/-- Settles O34: the four bytes are the digits of the length in base 256. -/
theorem frameHeaderIsTheLength : Obligations.FrameHeaderIsTheLength := by
  intro payload hlen
  refine ⟨_, _, _, _, rfl, ?_⟩
  simp only [BitVec.extractLsb'_toNat, BitVec.toNat_ofNat, Nat.shiftRight_eq_div_pow]
  omega

end Sys2Proof.Machine
end

section
/-! SUPPORT. The encoder on what the decoder answers, and the rows of the opcode table that match a command. -/

namespace Sys2Proof

/-! ## Encode of decode (R80, R82, R86) -/

/-- An opcode whose upper bits are those its row fixes is these bits and the ones the decoder keeps (R86). -/
theorem append_setWidth_of_div {m n : Nat} {fixed : BitVec m} {op : BitVec (m + n)}
    (h : op.toNat / 2 ^ n = fixed.toNat) : fixed ++ op.setWidth n = op := by
  refine BitVec.eq_of_toNat_eq ?_
  rw [toNat_append_eq_add, BitVec.toNat_setWidth, ← h, Nat.div_add_mod]

/-- The instruction the opcode map answers has the opcode it was read from (R86). -/
theorem opcode_decodeOp (op : Byte) (args : List Byte) : (decodeOp op args).opcode = some op := by
  have hlt := op.isLt
  unfold decodeOp
  iterate 8
    refine iteInduction (motive := fun i => Instr.opcode i = some op)
      (fun h => congrArg some (BitVec.eq_of_toNat_eq h.symm)) fun _ => ?_
  split_ifs
  · exact congrArg some (append_setWidth_of_div (by omega : op.toNat / 2 ^ 3 = 1))
  · exact congrArg some (append_setWidth_of_div (by omega : op.toNat / 2 ^ 4 = 1))
  · exact congrArg some (append_setWidth_of_div (by omega : op.toNat / 2 ^ 5 = 1))
  · exact congrArg some (append_setWidth_of_div (by omega : op.toNat / 2 ^ 6 = 1))
  · exact congrArg some (append_setWidth_of_div (by omega : op.toNat / 2 ^ 7 = 1))

/-- The opcode map keeps the bytes after OP (R80). -/
theorem args_decodeOp (op : Byte) (args : List Byte) : (decodeOp op args).args = args := by
  unfold decodeOp
  iterate 12 refine iteInduction (motive := fun i => Instr.args i = args) (fun _ => rfl) fun _ => ?_
  rfl

/-- The bytes of a decoded instruction are its header and the bytes it was read from (R80, R82). -/
theorem encode_decodeBody (body : List Byte) :
    encode (decodeBody body) = 0 :: 0 :: 0 :: BitVec.ofNat 8 body.length :: body := by
  rw [encode, decodeBody_len]
  cases body with
  | nil => rfl
  | cons op args => simp [decodeBody, opcode_decodeOp, args_decodeOp]

/-- A body that LEN can count decodes to a well-formed instruction (R80). -/
theorem wf_decodeBody {body : List Byte} (h : body.length < 256) : (decodeBody body).wf = true := by
  cases body with
  | nil => rfl
  | cons op args =>
    rw [List.length_cons] at h
    rw [decodeBody, Instr.wf, args_decodeOp, decide_eq_true_eq]
    omega

theorem encode_length (i : Instr) : (encode i).length = i.size := by
  rw [← decodeBody_encode i, encode_decodeBody, Instr.size, decodeBody_len]
  simp only [List.length_cons]
  omega

/-- An encoding as it is listed is also read as listed. -/
theorem encode_eq_and_decode {i : Instr} {bytes : List Byte} (hw : i.wf = true) (he : encode i = bytes) :
    encode i = bytes ∧ decode bytes = .ok (i, []) := by
  subst he
  refine ⟨rfl, ?_⟩
  rw [← List.append_nil (encode i), decode_encode hw]

/-! ## The opcode table (R86, R101) -/

/-- Bytes 0 to 4 of a command with a legal header, as the 40-bit number of R101. -/
def commandWord (len op : Byte) : BitVec 40 := 0#8 ++ 0#8 ++ 0#8 ++ len ++ op

/-- The mnemonics of the rows that match a legal header with these bytes LEN and OP (R101). -/
def matchingRows (len op : Byte) : List String :=
  (tableRows.filter fun r => r.matches 0 0 0 len op).map (·.mnemonic)

theorem matches_zero_header (r : TableRow) (len op : Byte) :
    r.matches 0 0 0 len op = ((commandWord len op &&& r.mask == r.value) && (r.mnemonic == "HDR0" || len != 0)) := rfl

/-- The row of HDR0 reads the header alone, and every other row leaves LEN free. -/
theorem tableRow_mask : ∀ r ∈ tableRows,
    (r.mnemonic = "HDR0" ∧ r.mask = 0xFFFFFFFF00 ∧ r.value = 0) ∨
      (r.mnemonic ≠ "HDR0" ∧ r.mask = 0xFFFFFF00FF &&& r.mask) := by decide

/-- A mask over a command's word is one over LEN and one over OP. -/
theorem commandWord_and (len op maskLen maskOp : Byte) :
    commandWord len op &&& (0xFF#8 ++ 0xFF#8 ++ 0xFF#8 ++ maskLen ++ maskOp : BitVec 40) =
      commandWord (len &&& maskLen) (op &&& maskOp) :=
  BitVec.and_append.trans (congrArg (· ++ (op &&& maskOp)) BitVec.and_append)

theorem commandWord_clear_len (len op : Byte) : commandWord len op &&& 0xFFFFFF00FF = commandWord 0 op :=
  (commandWord_and len op 0x00 0xFF).trans (congrArg₂ commandWord BitVec.and_zero BitVec.and_allOnes)

theorem commandWord_clear_op (len op : Byte) : commandWord len op &&& 0xFFFFFFFF00 = commandWord len 0 :=
  (commandWord_and len op 0xFF 0x00).trans (congrArg₂ commandWord BitVec.and_allOnes BitVec.and_zero)

theorem commandWord_eq_zero_iff (len : Byte) : commandWord len 0 = 0 ↔ len = 0 := by
  have hzero : (0 : BitVec 40) = commandWord 0 0 := rfl
  rw [hzero, commandWord, commandWord, BitVec.append_left_inj, BitVec.append_right_inj]

/-- HDR0's row matches the commands with LEN = 0 (R91, R101). -/
theorem matches_of_hdr0 {r : TableRow} (hname : r.mnemonic = "HDR0") (hmask : r.mask = 0xFFFFFFFF00)
    (hvalue : r.value = 0) (len op : Byte) : r.matches 0 0 0 len op = (len == 0) := by
  rw [matches_zero_header, hmask, hvalue, hname, commandWord_clear_op, beq_self_eq_true, Bool.true_or, Bool.and_true,
    Bool.eq_iff_iff, beq_iff_eq, beq_iff_eq, commandWord_eq_zero_iff]

/-- A row that leaves LEN free matches the same opcodes for every LEN ≥ 1, and none where LEN = 0 (R101). -/
theorem matches_of_len_free {r : TableRow} (hname : r.mnemonic ≠ "HDR0")
    (hmask : r.mask = 0xFFFFFF00FF &&& r.mask) (len op : Byte) :
    r.matches 0 0 0 len op = ((commandWord 0 op &&& r.mask == r.value) && len != 0) := by
  rw [matches_zero_header, hmask, ← BitVec.and_assoc, commandWord_clear_len, ← hmask, beq_false_of_ne hname,
    Bool.false_or]

/-- Where LEN = 0, whatever byte comes next, HDR0's row alone matches (R91). -/
theorem matchingRows_len_zero (op : Byte) : matchingRows 0 op = ["HDR0"] := by
  have hrow : ∀ r ∈ tableRows, r.matches 0 0 0 0 op = (r.mnemonic == "HDR0") := by
    intro r hr
    rcases tableRow_mask r hr with ⟨hname, hmask, hvalue⟩ | ⟨hname, hmask⟩
    · rw [matches_of_hdr0 hname hmask hvalue, hname]
      rfl
    · rw [matches_of_len_free hname hmask, beq_false_of_ne hname]
      exact Bool.and_false _
  rw [matchingRows, List.filter_congr hrow]
  decide

/-- Every LEN ≥ 1 selects the same rows (R101). -/
theorem matchingRows_len_pos {len : Byte} (hlen : len ≠ 0) (op : Byte) : matchingRows len op = matchingRows 1 op := by
  have hrow : ∀ r ∈ tableRows, r.matches 0 0 0 len op = r.matches 0 0 0 1 op := by
    intro r hr
    rcases tableRow_mask r hr with ⟨hname, hmask, hvalue⟩ | ⟨hname, hmask⟩
    · rw [matches_of_hdr0 hname hmask hvalue, matches_of_hdr0 hname hmask hvalue, beq_false_of_ne hlen]
      rfl
    · rw [matches_of_len_free hname hmask, matches_of_len_free hname hmask, bne_iff_ne.mpr hlen]
      rfl
  rw [matchingRows, matchingRows, List.filter_congr hrow]

/-- The opcode of an instruction matches its own row alone (R86). -/
theorem matchingRows_opcode {i : Instr} {op : Byte} (h : i.opcode = some op) : matchingRows 1 op = [i.mnemonic] := by
  cases i with
  | hdr0 => cases h
  | ign08To0F low args =>
    obtain rfl := Option.some.inj h
    exact (by decide : ∀ low : BitVec 3, matchingRows 1 (0b00001#5 ++ low) = ["IGN_08_0F"]) low
  | ign10To1F low args =>
    obtain rfl := Option.some.inj h
    exact (by decide : ∀ low : BitVec 4, matchingRows 1 (0b0001#4 ++ low) = ["IGN_10_1F"]) low
  | ign20To3F low args =>
    obtain rfl := Option.some.inj h
    exact (by decide : ∀ low : BitVec 5, matchingRows 1 (0b001#3 ++ low) = ["IGN_20_3F"]) low
  | ign40To7F low args =>
    obtain rfl := Option.some.inj h
    exact (by decide : ∀ low : BitVec 6, matchingRows 1 (0b01#2 ++ low) = ["IGN_40_7F"]) low
  | ign80ToFF low args =>
    obtain rfl := Option.some.inj h
    exact (by decide : ∀ low : BitVec 7, matchingRows 1 (0b1#1 ++ low) = ["IGN_80_FF"]) low
  | _ =>
    obtain rfl := Option.some.inj h
    rfl

/-- The one row that matches a command is that of the instruction its body decodes to; OP is the byte after the
header, which belongs to the body unless LEN = 0 (R86, R101). -/
theorem matchingRows_decodeBody {len op : Byte} {body rest tail : List Byte} (hlen : body.length = len.toNat)
    (hbytes : body ++ rest = op :: tail) : matchingRows len op = [(decodeBody body).mnemonic] := by
  cases body with
  | nil =>
    obtain rfl : len = 0 := BitVec.eq_of_toNat_eq hlen.symm
    exact matchingRows_len_zero op
  | cons b args =>
    obtain rfl : b = op := (List.cons.inj hbytes).1
    have hpos : len ≠ 0 := by
      rintro rfl
      cases hlen
    rw [matchingRows_len_pos hpos, decodeBody, matchingRows_opcode (opcode_decodeOp b args)]

/-! ## The capability packet (R97, R203) -/

/-- The four bytes of LE32, least significant first, are the word (R11, R59). -/
theorem append_extractLsb'_bytes (v : Word32) :
    v.extractLsb' 24 8 ++ v.extractLsb' 16 8 ++ v.extractLsb' 8 8 ++ v.extractLsb' 0 8 = v := by
  refine BitVec.eq_of_toNat_eq ?_
  have := v.isLt
  simp only [toNat_append_eq_add, BitVec.extractLsb'_toNat, Nat.shiftRight_eq_div_pow]
  omega

end Sys2Proof
end

section
/-! SUPPORT. The two fatal checks of the parser, and a snapshot cycle under another value of PENDING_FMT. -/

namespace Sys2Proof.Machine

/-! ## The fatal checks (R246) -/

theorem fetch_of_illegalHeader (cap : Nat) {z0 z1 z2 : Byte} (len : Byte) (tail : List Byte)
    (h : ¬ (z0 = 0 ∧ z1 = 0 ∧ z2 = 0)) : fetch cap (z0 :: z1 :: z2 :: len :: tail) = .fatal .fHdr := by
  simp only [fetch, header, if_neg h]

theorem fetch_of_oversized {cap : Nat} {len : Byte} (tail : List Byte) (h : cap < 4 + len.toNat) :
    fetch cap (0 :: 0 :: 0 :: len :: tail) = .fatal .fOvf := by
  rw [fetch, header_ok_iff.mpr ⟨tail, rfl⟩]
  exact if_pos h

/-- FAILED is terminal (R220, R243). -/
theorem step_of_failed {s : State} (hf : s.fsm = .failed) : step s = .fault .halted := by rw [step, hf]

/-- A pass that finds a fatal condition takes it and changes nothing else, and it is the last step (R241, R243). -/
theorem step_of_fatal {s : State} {code : FatalCode} (hf : s.fsm = .drain)
    (hfetch : fetch s.params.inCap s.ibuf = .fatal code) :
    ∃ t, step s = .next t ∧ t.fsm = .failed ∧ t.status = .exitFail code ∧ (∀ u, step t ≠ .next u) ∧
      (t.calls = s.calls ∨ t.calls = s.calls ++ [.finalize]) ∧
      { t with fsm := s.fsm, status := s.status, calls := s.calls, env := s.env } = s := by
  refine ⟨raiseFatal code s, ?_, rfl, rfl, fun u => ?_, raiseFatal_calls_cases code s, rfl⟩
  · rw [step_of_drain hf, stepDrain, hfetch]
  · rw [step_of_failed (raiseFatal_fsm code s)]
    exact nofun

/-! ## PENDING_FMT selects the converter, and a snapshot cycle reads it for nothing else (R179) -/

section PendingFormat

variable {s p : State} (f : BitVec 3)

theorem payload_writePendingFmt (c : Converter) : c.payload (writePendingFmt f s) = c.payload s := by
  cases c <;> rfl

theorem prepareSnapshot_writePendingFmt (hp : prepareSnapshot s = .ok p) :
    prepareSnapshot (writePendingFmt f s) = .ok (writePendingFmt f p) := by
  have hdithers : (writePendingFmt f s).dithers = s.dithers := rfl
  rcases prepareSnapshot_cases hp with ⟨hd, rfl⟩ | ⟨d, hd, he, rfl⟩
  · rw [prepareSnapshot, hdithers, hd]
    rfl
  · have he' : ditherEntries (capture (writePendingFmt f s)) = .ok d := he
    rw [prepareSnapshot, hdithers, hd, if_pos rfl, dither, he']
    rfl

/-- An accepted write clears PENDING_FMT, and a failed one leaves it (R228). -/
theorem emitPacket_writePendingFmt (packet : List Byte) (s : State) :
    { emitPacket packet endSnapshot (writePendingFmt f s) with
      pendingFmt := (emitPacket packet endSnapshot s).pendingFmt } = emitPacket packet endSnapshot s := by
  have hw : (writePendingFmt f s).writeOutcome = s.writeOutcome := rfl
  unfold emitPacket
  rw [hw]
  cases s.writeOutcome <;> rfl

/-- Two formats with one converter give the same snapshot cycle (R88, R179). -/
theorem stepEmit_writePendingFmt {f : BitVec 3} {t : State} (hf : converterOf f = converterOf s.pendingFmt)
    (hs : stepEmit s = .next t) :
    ∃ u, stepEmit (writePendingFmt f s) = .next u ∧ { u with pendingFmt := t.pendingFmt } = t := by
  obtain ⟨c, prepared, payload, hc, ha, hp, hpayload, hlen, rfl⟩ := stepEmit_cases hs
  have ha' : c.accepts (writePendingFmt f s) = true := ha
  refine ⟨_, ?_, emitPacket_writePendingFmt f (frame payload) prepared⟩
  simp only [stepEmit, writePendingFmt_pendingFmt, hf, hc, ha', prepareSnapshot_writePendingFmt f hp,
    payload_writePendingFmt, hpayload, hlen, if_true]

end PendingFormat

end Sys2Proof.Machine
end

section
/-! The statements of the family 30_encoding.md, from the lemmas above. -/

namespace Sys2Proof.Machine

/-- Settles O2: the parser reads LEN and the body back, and the body decodes to the instruction it encodes. -/
theorem decodeInvertsEncode : Obligations.DecodeInvertsEncode := fun _ rest hw => decode_encode hw rest

/-- Settles O3: a decoded command is the decoding of its body, and the body's encoding is its header and it. -/
theorem encodeInvertsDecode : Obligations.EncodeInvertsDecode := by
  intro bytes i rest hd
  obtain ⟨len, body, rfl, hlen, rfl⟩ := decode_ok_iff.mp hd
  have hfits : body.length < 256 := hlen ▸ len.isLt
  refine ⟨wf_decodeBody hfits, encode_length _, ?_⟩
  rw [encode_decodeBody, hlen, BitVec.ofNat_toNat, BitVec.setWidth_eq]
  rfl

/-- Settles O4: with LEN = 0 HDR0's row alone matches, and with LEN ≥ 1 the row of the opcode alone. -/
theorem oneTableRowMatches : Obligations.OneTableRowMatches := by
  intro b0 b1 b2 len op tail i rest hd
  obtain ⟨len', body, hbytes, hlen, rfl⟩ := decode_ok_iff.mp hd
  simp only [List.cons.injEq] at hbytes
  obtain ⟨rfl, rfl, rfl, rfl, hbody⟩ := hbytes
  exact matchingRows_decodeBody hlen hbody.symm

/-- Settles O46: formats 1 and 2 select one converter, which is all a snapshot cycle reads of them. -/
theorem synonymsGiveTheSameSnapshot : Obligations.SynonymsGiveTheSameSnapshot := by
  intro s t hstep
  have hs : stepEmit { s with fsm := .emit, pendingFmt := 1 } = .next t := (step_of_emit rfl).symm.trans hstep
  obtain ⟨u, hu, hsame⟩ := stepEmit_writePendingFmt (f := 2) rfl hs
  exact ⟨u, (step_of_emit rfl).trans hu, hsame⟩

/-- Settles O1: the listed bytes are the encodings, and decode inverts encode. -/
theorem minimalEncodingsAreAsListed : Obligations.MinimalEncodingsAreAsListed := fun _ _ =>
  ⟨encode_eq_and_decode rfl rfl, encode_eq_and_decode rfl rfl, encode_eq_and_decode rfl rfl,
    encode_eq_and_decode rfl rfl, encode_eq_and_decode rfl rfl, encode_eq_and_decode rfl rfl,
    encode_eq_and_decode rfl rfl⟩

/-- Settles O5: each of the five is a request with its own opcode, which writes PENDING_FMT alone. -/
theorem requestsRecordTheirOpcode : Obligations.RequestsRecordTheirOpcode := fun _ s =>
  ⟨request_eq 1 s, request_eq 2 s, request_eq 3 s, request_eq 4 s, request_eq 5 s⟩

/-- Settles O8: each of the seven returns the state it is given. -/
theorem ignoredCommandsChangeNothing : Obligations.IgnoredCommandsChangeNothing := fun _ _ _ _ _ _ s =>
  ⟨noEffect_eq s, noEffect_eq s, noEffect_eq s, noEffect_eq s, noEffect_eq s, noEffect_eq s, noEffect_eq s⟩

/-- Settles O12: the header check fails first, and the pass takes F_HDR. -/
theorem illegalHeaderIsFatal : Obligations.IllegalHeaderIsFatal := by
  intro s z0 z1 z2 len tail hf hibuf hheader
  refine step_of_fatal hf ?_
  rw [hibuf, fetch_of_illegalHeader _ len tail hheader]

/-- Settles O13: the header is legal, the capacity check fails, and the pass takes F_OVF. -/
theorem oversizedCommandIsFatal : Obligations.OversizedCommandIsFatal := by
  intro s len tail hf hibuf hcap
  refine step_of_fatal hf ?_
  rw [hibuf, fetch_of_oversized tail hcap]

/-- Settles O35: the payload's fields in order, framed by its length 36, each the bytes of its word. -/
theorem capabilityPacketLayout : Obligations.CapabilityPacketLayout := by
  refine fun g => ⟨?_, ?_, fun v => ⟨_, _, _, _, rfl, (append_extractLsb'_bytes v).symm⟩⟩
  · have hheader : be32 36 = [0x00, 0x00, 0x00, 0x24] := by decide
    rw [frame, capability_length, hheader, capability]
    simp only [List.append_assoc]
  · rw [frame_length, capability_length]

end Sys2Proof.Machine
end

section
/-! SUPPORT. What Execute reads and leaves alone, what the parser's checks make of bytes that are appended, and
`Drain()` as the passes of the parser loop, freed of its count of passes. -/

namespace Sys2Proof.Machine

variable {s t u : State} {i : Instr} {n : Nat}

/-! ## Execute (R112) -/

/-- What a command does is the same in every state: it is one of the three writes, or none (R112). -/
theorem exec_uniform (i : Instr) :
    (∃ f, requestedFormat i = some f ∧ ∀ s, exec i s = .next (writePendingFmt f s)) ∨
    requestedFormat i = none ∧
      ((∃ v, ∀ s, exec i s = .next (writeThresholds v s)) ∨ (∃ m, ∀ s, exec i s = .next (writeDitherMode m s)) ∨
        ∀ s, exec i s = .next s) := by
  cases i with
  | reqRgb24 args => exact .inl ⟨1, rfl, request_eq 1⟩
  | reqRgb24Alt args => exact .inl ⟨2, rfl, request_eq 2⟩
  | reqRgb565 args => exact .inl ⟨3, rfl, request_eq 3⟩
  | reqMono args => exact .inl ⟨4, rfl, request_eq 4⟩
  | reqMonoCol args => exact .inl ⟨5, rfl, request_eq 5⟩
  | setThreshold args =>
    cases args with
    | nil => exact .inr ⟨rfl, .inr (.inr fun _ => rfl)⟩
    | cons v rest => exact .inr ⟨rfl, .inl ⟨v, fun _ => rfl⟩⟩
  | setDither args =>
    cases args with
    | nil => exact .inr ⟨rfl, .inr (.inr fun _ => rfl)⟩
    | cons m rest => exact .inr ⟨rfl, .inr (.inl ⟨m, fun _ => rfl⟩)⟩
  | _ => exact .inr ⟨rfl, .inr (.inr noEffect_eq)⟩

/-- Execute does not read IBUF (R112). -/
theorem exec_withIbuf (h : exec i s = .next t) (b : List Byte) :
    exec i { s with ibuf := b } = .next { t with ibuf := b } := by
  rcases exec_uniform i with ⟨f, -, he⟩ | ⟨-, ⟨v, he⟩ | ⟨m, he⟩ | he⟩ <;>
    obtain rfl := Host.Outcome.next.inj ((he s).symm.trans h) <;> exact he _

/-- A request overwrites PENDING_FMT (R113 to R117). -/
theorem exec_writePendingFmt_of_request (h : requestedFormat i ≠ none) (f : BitVec 3) (s : State) :
    exec i (writePendingFmt f s) = exec i s := by
  rcases exec_uniform i with ⟨g, -, he⟩ | ⟨hnone, -⟩
  · rw [he, he]
    rfl
  · exact absurd hnone h

/-- A command that is no request does not read PENDING_FMT (R112). -/
theorem exec_writePendingFmt_of_no_request (hi : requestedFormat i = none) (f : BitVec 3) (h : exec i s = .next t) :
    exec i (writePendingFmt f s) = .next (writePendingFmt f t) := by
  rcases exec_uniform i with ⟨g, hg, -⟩ | ⟨-, ⟨v, he⟩ | ⟨m, he⟩ | he⟩
  · simp [hi] at hg
  all_goals
    obtain rfl := Host.Outcome.next.inj ((he s).symm.trans h)
    exact he _

/-- PENDING_FMT is written by a request alone (R112 to R117). -/
theorem exec_pendingFmt (h : exec i s = .next t) : t.pendingFmt = (requestedFormat i).getD s.pendingFmt := by
  rcases exec_uniform i with ⟨f, hf, he⟩ | ⟨hf, ⟨v, he⟩ | ⟨m, he⟩ | he⟩ <;>
    obtain rfl := Host.Outcome.next.inj ((he s).symm.trans h) <;> rw [hf] <;> rfl

/-- DITHER_MODE is written by SET_DITHER alone (R112, R119). -/
theorem exec_ditherMode (h : exec i s = .next t) (hi : ∀ args, i ≠ .setDither args) :
    t.ditherMode = s.ditherMode := by
  rcases exec_cases i s with ⟨f, -, he⟩ | ⟨v, rest, -, he⟩ | ⟨m, rest, rfl, -⟩ | ⟨-, he⟩
  case inr.inr.inl => exact absurd rfl (hi _)
  all_goals
    obtain rfl := Host.Outcome.next.inj (he.symm.trans h)
    rfl

/-- The thresholds are written by SET_THRESHOLD alone (R112, R118). -/
theorem exec_thresholds (h : exec i s = .next t) (hi : ∀ args, i ≠ .setThreshold args) :
    t.thrR = s.thrR ∧ t.thrG = s.thrG ∧ t.thrB = s.thrB := by
  rcases exec_cases i s with ⟨f, -, he⟩ | ⟨v, rest, rfl, -⟩ | ⟨m, rest, -, he⟩ | ⟨-, he⟩
  case inr.inl => exact absurd rfl (hi _)
  all_goals
    obtain rfl := Host.Outcome.next.inj (he.symm.trans h)
    exact ⟨rfl, rfl, rfl⟩

/-! ## Lists of commands (R110) -/

theorem runCommands_cons (h : exec i s = .next t) (rest : List Instr) :
    runCommands (i :: rest) s = runCommands rest t := by
  rw [runCommands, h]

/-- A request later in the list leaves no trace of what PENDING_FMT was before the list (R127). -/
theorem runCommands_writePendingFmt {is : List Instr} (h : ∃ i ∈ is, requestedFormat i ≠ none) (f : BitVec 3)
    (s : State) : runCommands is (writePendingFmt f s) = runCommands is s := by
  induction is generalizing s with
  | nil => simp at h
  | cons i rest ih =>
    obtain ⟨t, he, -⟩ := exec_total i s
    by_cases hi : requestedFormat i = none
    · have hrest : ∃ j ∈ rest, requestedFormat j ≠ none := by simpa [hi] using h
      rw [runCommands_cons (exec_writePendingFmt_of_no_request hi f he), runCommands_cons he, ih hrest]
    · rw [runCommands_cons ((exec_writePendingFmt_of_request hi f s).trans he), runCommands_cons he]

/-- After a common beginning, two lists of commands that agree in every state agree. -/
theorem runCommands_append_congr {xs ys : List Instr} (h : ∀ s, runCommands xs s = runCommands ys s)
    (before : List Instr) (s : State) : runCommands (before ++ xs) s = runCommands (before ++ ys) s := by
  induction before generalizing s with
  | nil => exact h s
  | cons i rest ih =>
    obtain ⟨t, he, -⟩ := exec_total i s
    rw [List.cons_append, List.cons_append, runCommands_cons he, runCommands_cons he, ih]

/-- The last request of a list decides PENDING_FMT (R127). -/
theorem runCommands_pendingFmt {is : List Instr} (h : runCommands is s = .next t) :
    t.pendingFmt = (is.filterMap requestedFormat).getLast?.getD s.pendingFmt := by
  induction is generalizing s with
  | nil =>
    obtain rfl := Host.Outcome.next.inj h
    rfl
  | cons i rest ih =>
    obtain ⟨u, he, -⟩ := exec_total i s
    rw [runCommands_cons he] at h
    rw [ih h, exec_pendingFmt he]
    cases hi : requestedFormat i with
    | none => rw [List.filterMap_cons_none hi, Option.getD_none]
    | some f => rw [List.filterMap_cons_some hi, List.getLast?_cons, Option.getD_some, Option.getD_some]

/-! ## The checks of R246 on more bytes (R122, R123) -/

/-- Once a header is there, later bytes do not change what it says (R82, R90). -/
theorem header_append {bytes : List Byte} (h : header bytes ≠ .error .shortHeader) (more : List Byte) :
    header (bytes ++ more) = header bytes := by
  rw [ne_eq, header_short_iff] at h
  match bytes with
  | z0 :: z1 :: z2 :: len :: tail => rfl
  | [] | [_] | [_, _] | [_, _, _] => simp at h

theorem decode_append {bytes rest : List Byte} (h : decode bytes = .ok (i, rest)) (more : List Byte) :
    decode (bytes ++ more) = .ok (i, rest ++ more) := by
  obtain ⟨len, body, rfl, hlen, hi⟩ := decode_ok_iff.mp h
  exact decode_ok_iff.mpr ⟨len, body, by simp, hlen, hi⟩

/-- What the parser finds without waiting it finds whatever bytes follow (R122, R123). -/
theorem fetch_append {cap : Nat} {ibuf : List Byte} (h : fetch cap ibuf ≠ .wait) (more : List Byte) :
    fetch cap (ibuf ++ more) = fetch cap ibuf := by
  cases hfetch : fetch cap ibuf with
  | wait => exact absurd hfetch h
  | fatal code =>
    rcases fetch_fatal_cases hfetch with ⟨rfl, hh⟩ | ⟨len, rfl, hh, hcap⟩
    · rw [fetch, header_append (hh ▸ nofun), hh]
    · obtain ⟨tail, rfl⟩ := header_ok_iff.mp hh
      exact fetch_of_oversized (tail ++ more) hcap
  | command i n =>
    obtain ⟨len, rest, hh, hd, hn, hcap⟩ := fetch_command_iff.mp hfetch
    exact fetch_command_iff.mpr
      ⟨len, rest ++ more, (header_append (hh ▸ nofun) more).trans hh, decode_append hd more, hn, hcap⟩

/-- A command the parser finds has at least its 4 header bytes, and all its bytes are in IBUF (R111). -/
theorem fetch_command_size {cap : Nat} {ibuf : List Byte} (h : fetch cap ibuf = .command i n) :
    4 ≤ n ∧ n ≤ ibuf.length := by
  obtain ⟨len, rest, hh, hd, rfl, -⟩ := fetch_command_iff.mp h
  obtain ⟨len', body, rfl, hlen, -⟩ := decode_ok_iff.mp hd
  obtain ⟨tail, htail⟩ := header_ok_iff.mp hh
  simp only [List.cons.injEq, true_and] at htail
  obtain ⟨rfl, -⟩ := htail
  simp only [List.length_cons, List.length_append]
  omega

/-- Where the parser waits, IBUF has room: a header's worth, or the rest of a command that fits (R8, R124). -/
theorem length_lt_of_fetch_wait {cap : Nat} {ibuf : List Byte} (hcap : 6 ≤ cap) (h : fetch cap ibuf = .wait) :
    ibuf.length < cap := by
  rcases fetch_wait_iff.mp h with hlen | ⟨len, tail, rfl, hfits, htail⟩
  · omega
  · simp only [List.length_cons]
    omega

/-! ## One pass of the parser loop -/

theorem stepDrain_of_wait (h : fetch s.params.inCap s.ibuf = .wait) : stepDrain s = .next (endDrain s) := by
  rw [stepDrain, h]

theorem stepDrain_of_fatal {code : FatalCode} (h : fetch s.params.inCap s.ibuf = .fatal code) :
    stepDrain s = .next (raiseFatal code s) := by
  rw [stepDrain, h]

theorem endDrain_eq (s : State) : endDrain s = { s with fsm := if s.pendingFmt = 0 then .await else .emit } := by
  by_cases h : s.pendingFmt = 0 <;> simp [endDrain, setFsm, State.snapshotPending, h]

theorem endDrain_fsm_cases (s : State) : (endDrain s).fsm = .await ∨ (endDrain s).fsm = .emit := by
  rw [endDrain_eq]
  exact (ite_eq_or_eq (s.pendingFmt = 0) Fsm.await Fsm.emit)

/-- What a consumed and executed command leaves of the parser's own state (R111, R112). -/
theorem exec_consume_parser (h : exec i (consume n s) = .next u) :
    u.ibuf = s.ibuf.drop n ∧ u.fsm = s.fsm ∧ u.params = s.params :=
  ⟨(congrArg State.ibuf (exec_frame h) :), (congrArg State.fsm (exec_frame h) :),
    (congrArg State.params (exec_frame h) :)⟩

/-- A pass after which the loop goes on has consumed at least 4 bytes (R124). -/
theorem stepDrain_length (hs : stepDrain s = .next t) (ht : t.fsm = .drain) : t.ibuf.length + 4 ≤ s.ibuf.length := by
  rcases stepDrain_cases hs with ⟨-, rfl⟩ | ⟨code, -, rfl⟩ | ⟨i, n, hfetch, he⟩
  · rcases endDrain_fsm_cases s with hf | hf <;> cases hf.symm.trans ht
  · cases ht
  · have hsize := fetch_command_size hfetch
    rw [(exec_consume_parser he).1, List.length_drop]
    omega

theorem stepDrain_params (hs : stepDrain s = .next t) : t.params = s.params :=
  (congrArg State.params (stepDrain_frame hs) :)

/-- Induction along a Drain: its last pass waits or is fatal, and every other pass executes a command (R110). -/
theorem drain_induction {motive : (s : State) → s.fsm = .drain → Prop}
    (wait : ∀ s hf, fetch s.params.inCap s.ibuf = .wait → motive s hf)
    (fatal : ∀ s hf code, fetch s.params.inCap s.ibuf = .fatal code → motive s hf)
    (command : ∀ s hf i n u hu, fetch s.params.inCap s.ibuf = .command i n → exec i (consume n s) = .next u →
      motive u hu → motive s hf) (s : State) (hf : s.fsm = .drain) : motive s hf := by
  cases hfetch : fetch s.params.inCap s.ibuf with
  | wait => exact wait s hf hfetch
  | fatal code => exact fatal s hf code hfetch
  | command i n =>
    obtain ⟨u, he, -⟩ := exec_total i (consume n s)
    have hu : u.fsm = .drain := (exec_consume_parser he).2.1.trans hf
    have hlen : u.ibuf.length + 4 ≤ s.ibuf.length := stepDrain_length ((stepDrain_of_command hfetch).trans he) hu
    exact command s hf i n u hu hfetch he (drain_induction wait fatal command u hu)
termination_by s.ibuf.length

/-! ## Drain without its count of passes (R110, R224) -/

theorem drainFor_of_fsm_ne (hf : s.fsm ≠ .drain) (k : Nat) : drainFor k s = .next s := by
  cases k with
  | zero => rfl
  | succ k => rw [drainFor, if_neg hf]

theorem drainFor_succ (hf : s.fsm = .drain) (hs : stepDrain s = .next t) (k : Nat) :
    drainFor (k + 1) s = drainFor k t := by
  rw [drainFor, if_pos hf, hs]

/-- More passes than IBUF has bytes are as good as any other such number of passes (R124). -/
theorem drainFor_eq_of_length_lt {j k : Nat} (hj : s.ibuf.length < j) (hk : s.ibuf.length < k) :
    drainFor j s = drainFor k s := by
  induction j generalizing s k with
  | zero => omega
  | succ j ih =>
    obtain ⟨k, rfl⟩ := Nat.exists_eq_add_one_of_ne_zero (Nat.ne_zero_of_lt hk)
    by_cases hf : s.fsm = .drain
    · obtain ⟨t, hs⟩ := stepDrain_total s
      rw [drainFor_succ hf hs, drainFor_succ hf hs]
      by_cases ht : t.fsm = .drain
      · have hlen := stepDrain_length hs ht
        exact ih (by omega) (by omega)
      · rw [drainFor_of_fsm_ne ht, drainFor_of_fsm_ne ht]
    · rw [drainFor_of_fsm_ne hf, drainFor_of_fsm_ne hf]

theorem drain_of_fsm_ne (hf : s.fsm ≠ .drain) : drain s = .next s := drainFor_of_fsm_ne hf _

/-- A Drain is its first pass and then the Drain of what it leaves (R110). -/
theorem drain_of_stepDrain (hf : s.fsm = .drain) (hs : stepDrain s = .next t) : drain s = drain t := by
  rw [drain, drainFor_succ hf hs]
  by_cases ht : t.fsm = .drain
  · have hlen := stepDrain_length hs ht
    exact drainFor_eq_of_length_lt (by rw [State.ibufLen]; omega) (Nat.lt_succ_self _)
  · rw [drainFor_of_fsm_ne ht, drain_of_fsm_ne ht]

theorem drain_of_wait (hf : s.fsm = .drain) (h : fetch s.params.inCap s.ibuf = .wait) :
    drain s = .next (endDrain s) := by
  rw [drain_of_stepDrain hf (stepDrain_of_wait h), drain_of_fsm_ne]
  rcases endDrain_fsm_cases s with he | he <;> rw [he] <;> exact nofun

theorem drain_of_fatal {code : FatalCode} (hf : s.fsm = .drain) (h : fetch s.params.inCap s.ibuf = .fatal code) :
    drain s = .next (raiseFatal code s) := by
  rw [drain_of_stepDrain hf (stepDrain_of_fatal h), drain_of_fsm_ne]
  rw [raiseFatal_fsm]
  exact nofun

theorem drain_of_command (hf : s.fsm = .drain) (h : fetch s.params.inCap s.ibuf = .command i n)
    (he : exec i (consume n s) = .next u) : drain s = drain u :=
  drain_of_stepDrain hf ((stepDrain_of_command h).trans he)

/-! ## A Drain as steps of the machine (R124) -/

theorem run_of_step {M : Host.Core} {s t : M.State} (k : Nat) (hs : M.step s = .next t) :
    M.run (k + 1) s = M.run k t := by
  rw [Host.Core.run, hs]

/-- The engine has left DRAIN: it has failed, or it has gone on with IBUF at a place where the parser waits. -/
def State.DrainDone (s : State) : Prop :=
  s.fsm = .failed ∨ (s.fsm = .await ∨ s.fsm = .emit) ∧ fetch s.params.inCap s.ibuf = .wait

/-- A Drain is over after at most one pass for every 4 bytes of IBUF, and one more (R124). -/
theorem exists_run_drainDone (s : State) (hf : s.fsm = .drain) :
    ∃ k t, k ≤ s.ibuf.length / 4 + 1 ∧ Host.Core.run Sys2Proof.core k s = .next t ∧ t.params = s.params ∧
      t.DrainDone := by
  induction s, hf using drain_induction with
  | wait s hf h =>
    refine ⟨1, endDrain s, Nat.le_add_left 1 _, ?_, rfl, .inr ⟨endDrain_fsm_cases s, h⟩⟩
    exact run_of_step (M := core) 0 ((step_of_drain hf).trans (stepDrain_of_wait h))
  | fatal s hf code h =>
    refine ⟨1, raiseFatal code s, Nat.le_add_left 1 _, ?_, rfl, .inl rfl⟩
    exact run_of_step (M := core) 0 ((step_of_drain hf).trans (stepDrain_of_fatal h))
  | command s hf i n u hu h he ih =>
    obtain ⟨k, t, hk, hrun, hparams, hdone⟩ := ih
    obtain ⟨-, -, hcap⟩ := exec_consume_parser he
    have hs : stepDrain s = .next u := (stepDrain_of_command h).trans he
    have hlen := stepDrain_length hs hu
    refine ⟨k + 1, t, by omega, ?_, hparams.trans hcap, hdone⟩
    exact (run_of_step (M := core) k ((step_of_drain hf).trans hs)).trans hrun

end Sys2Proof.Machine
end

section
/-! The statements of the family 40_request_protocol.md, from the lemmas above. -/

namespace Sys2Proof.Machine

/-- Settles O15: a pass that goes on has consumed a command, and where the parser waits IBUF has room. -/
theorem drainAlwaysEnds : Obligations.DrainAlwaysEnds := by
  intro s hf hcap
  refine ⟨fun t hstep ht => ?_, ?_⟩
  · have hs : stepDrain s = .next t := (step_of_drain hf).symm.trans hstep
    have hlen := stepDrain_length hs ht
    exact ⟨hlen, fun hfits => by rw [stepDrain_params hs]; omega⟩
  · obtain ⟨k, t, hk, hrun, hparams, hdone⟩ := exists_run_drainDone s hf
    refine ⟨k, t, hk, hrun, hdone.imp_right fun ⟨hfsm, hwait⟩ => ⟨hfsm, ?_, ?_⟩⟩
    · exact length_lt_of_fetch_wait (hparams ▸ hcap) hwait
    · refine (fetch_wait_iff.mp hwait).imp_right fun ⟨len, tail, hibuf, hfits, htail⟩ => ⟨len, tail, hibuf, ?_, hfits⟩
      rw [hibuf]
      simp only [List.length_cons]
      omega

/-- Settles O16, by induction on the commands: decode inverts encode, so that each pass of the Drain executes
the next of them. -/
theorem drainExecutesEveryCommand : Obligations.DrainExecutesEveryCommand := by
  intro s is tail hf hibuf his hwait
  induction is generalizing s with
  | nil =>
    obtain rfl : s.ibuf = tail := hibuf
    exact ⟨s, rfl, by rw [drain_of_wait hf hwait, endDrain_eq]⟩
  | cons i rest ih =>
    obtain ⟨⟨hw, hsize⟩, hrest⟩ := List.forall_mem_cons.mp his
    have hd : decode s.ibuf = .ok (i, rest.flatMap encode ++ tail) := by
      rw [hibuf, List.flatMap_cons, List.append_assoc, decode_encode hw]
    obtain ⟨hfetch, hdrop⟩ := fetch_of_decode hd hsize
    obtain ⟨u, he, -⟩ := exec_total i (consume i.size s)
    obtain ⟨hu, hfsm, hparams⟩ := exec_consume_parser he
    obtain ⟨t, hrun, hdrain⟩ := ih u (hfsm.trans hf) (hu.trans hdrop) (hparams ▸ hrest) (hparams ▸ hwait)
    exact ⟨t, (runCommands_cons (exec_withIbuf he tail) rest).trans hrun, (drain_of_command hf hfetch he).trans hdrain⟩

/-- Settles O17, by induction along the first Drain: every pass but a last one that waits is the same pass when
more bytes follow. -/
theorem chunkingDoesNotMatter : Obligations.ChunkingDoesNotMatter := by
  intro s t more hf
  induction s, hf using drain_induction with
  | wait s hf h =>
    intro hdrain
    obtain rfl := Host.Outcome.next.inj ((drain_of_wait hf h).symm.trans hdrain)
    refine ⟨fun _ => ?_, fun hfailed => ?_⟩
    · rw [endDrain_eq, ← hf]
    · rcases endDrain_fsm_cases s with he | he <;> cases he.symm.trans hfailed
  | fatal s hf code h =>
    intro hdrain
    obtain rfl := Host.Outcome.next.inj ((drain_of_fatal hf h).symm.trans hdrain)
    have hmore := (fetch_append (h ▸ nofun) more).trans h
    exact ⟨fun hne => absurd rfl hne, fun _ => drain_of_fatal (s := { s with ibuf := s.ibuf ++ more }) hf hmore⟩
  | command s hf i n u hu h he ih =>
    intro hdrain
    have hmore := (fetch_append (h ▸ nofun) more).trans h
    have hibuf : u.ibuf ++ more = (s.ibuf ++ more).drop n := by
      rw [(exec_consume_parser he).1, List.drop_append_of_le_length (fetch_command_size h).2]
    have hdrain' : drain { s with ibuf := s.ibuf ++ more } = drain { u with ibuf := u.ibuf ++ more } :=
      drain_of_command (s := { s with ibuf := s.ibuf ++ more }) hf hmore (hibuf ▸ exec_withIbuf he _)
    rw [hdrain']
    exact ih ((drain_of_command hf h he).symm.trans hdrain)

/-- Settles O18: each request overwrites PENDING_FMT, and no other command reads or writes it. -/
theorem lastRequestDecides : Obligations.LastRequestDecides := by
  refine ⟨fun is s t h => runCommands_pendingFmt h, fun before between after early late s hearly hlate => ?_⟩
  refine runCommands_append_congr (fun u => ?_) before s
  obtain ⟨f, -, he⟩ | ⟨hnone, -⟩ := exec_uniform early
  · rw [runCommands_cons (he u), runCommands_writePendingFmt ⟨late, by simp, hlate⟩]
  · exact absurd hnone hearly

/-- Settles O6: the three values as arithmetic on t. -/
theorem setThresholdWritesAllThree : Obligations.SetThresholdWritesAllThree := by
  intro t extra s
  rw [← thresholdR_eq_ofNat, ← thresholdG_eq_ofNat, ← thresholdB_eq_ofNat]
  exact ⟨congrArg Host.Outcome.next (withArg0_cons t extra writeThresholds s),
    congrArg Host.Outcome.next (withArg0_nil writeThresholds s)⟩

/-- Settles O7: ARG0 is stored where it is there. -/
theorem setDitherStoresTheByte : Obligations.SetDitherStoresTheByte := fun m extra s =>
  ⟨congrArg Host.Outcome.next (withArg0_cons m extra writeDitherMode s),
    congrArg Host.Outcome.next (withArg0_nil writeDitherMode s)⟩

/-- Settles O9: the frame of Execute, and the one command for each register outside it. -/
theorem commandFrame : Obligations.CommandFrame := by
  intro i s t h
  have hframe := exec_frame h
  have hraster : t.raster = s.raster := (congrArg State.raster hframe :)
  have hdbuf : t.dbuf = s.dbuf := (congrArg State.dbuf hframe :)
  have hibuf : t.ibuf = s.ibuf := (congrArg State.ibuf hframe :)
  exact ⟨fun k => by rw [hraster], fun k => by rw [hdbuf], fun k => by rw [hibuf],
    (congrArg State.geometry hframe :), (congrArg State.fsm hframe :), (congrArg State.status hframe :),
    (congrArg State.out hframe :), (congrArg State.params hframe :), (congrArg State.calls hframe :),
    (congrArg State.env hframe :),
    fun hi => by rw [exec_pendingFmt h, hi, Option.getD_none], exec_ditherMode h, exec_thresholds h⟩

end Sys2Proof.Machine
end

section
/-! SUPPORT. The intensity and the comparator as numbers, the scan as an order on pixels, and the effect of one
decision on every entry of DBUF (R142, R143, R145 to R149). -/

namespace Sys2Proof.Machine

/-! ## Intensity and the comparator (R142, R143, R171) -/

/-- The intensity lies in 0..63 (R142). -/
theorem intensity_le (p : Pixel) : intensity p ≤ 63 := by
  have hhigh := (fieldHigh p).isLt
  have hmiddle := (fieldMiddle p).isLt
  have hlow := (fieldLow p).isLt
  unfold intensity
  omega

/-- A field masked in place is the field's bits, moved to its place. -/
theorem and_mask_eq_shiftLeft (p : Pixel) (k n : Nat) :
    p &&& (BitVec.allOnes n).setWidth 16 <<< k = (p.extractLsb' k n).setWidth 16 <<< k := by
  ext i hi
  simp only [BitVec.getElem_and, BitVec.getElem_shiftLeft, BitVec.getElem_setWidth, BitVec.getLsbD_allOnes,
    BitVec.getLsbD_extractLsb']
  by_cases hk : i < k
  · simp [hk]
  · simp [hk, Bool.and_comm, Nat.add_sub_cancel' (Nat.le_of_not_lt hk), BitVec.getLsbD_eq_getElem hi]

/-- A field masked in place, as a number. -/
theorem toNat_and_mask (p : Pixel) {k n : Nat} (hk : k + n ≤ 16) :
    (p &&& (BitVec.allOnes n).setWidth 16 <<< k).toNat = (p.extractLsb' k n).toNat * 2 ^ k := by
  have hfield := (p.extractLsb' k n).isLt
  have hle : 2 ^ n * 2 ^ k ≤ 2 ^ 16 := by
    rw [← Nat.pow_add, Nat.add_comm]
    exact Nat.pow_le_pow_right (by decide) hk
  have hlt : (p.extractLsb' k n).toNat * 2 ^ k < 2 ^ 16 :=
    Nat.lt_of_lt_of_le (Nat.mul_lt_mul_of_pos_right hfield (Nat.two_pow_pos k)) hle
  have hsmall : (p.extractLsb' k n).toNat < 2 ^ 16 :=
    Nat.lt_of_le_of_lt (Nat.le_mul_of_pos_right _ (Nat.two_pow_pos k)) hlt
  rw [and_mask_eq_shiftLeft, BitVec.toNat_shiftLeft, BitVec.toNat_setWidth, Nat.mod_eq_of_lt hsmall,
    Nat.shiftLeft_eq, Nat.mod_eq_of_lt hlt]

/-- The comparator compares each lane with the threshold of its own width (R171). -/
theorem comparatorOn_iff (p : Pixel) (t : Byte) :
    comparatorOn (thresholdR t) (thresholdG t) (thresholdB t) p = true ↔
      t.toNat / 8 < (fieldLow p).toNat ∨ t.toNat / 4 < (fieldMiddle p).toNat ∨ t.toNat / 8 < (fieldHigh p).toNat := by
  have hlow : (p &&& 0x001F).toNat = (fieldLow p).toNat * 2 ^ 0 := toNat_and_mask p (k := 0) (n := 5) (by decide)
  have hmiddle : (p &&& 0x07E0).toNat = (fieldMiddle p).toNat * 2 ^ 5 :=
    toNat_and_mask p (k := 5) (n := 6) (by decide)
  have hhigh : (p &&& 0xF800).toNat = (fieldHigh p).toNat * 2 ^ 11 :=
    toNat_and_mask p (k := 11) (n := 5) (by decide)
  simp only [comparatorOn, Bool.or_eq_true, decide_eq_true_eq, gt_iff_lt, BitVec.lt_def, thresholdR_toNat,
    thresholdG_toNat, thresholdB_toNat, hlow, hmiddle, hhigh]
  omega

theorem threshold6_thresholdG (t : Byte) : threshold6 (thresholdG t) = t.toNat / 4 := by
  rw [threshold6, BitVec.toNat_ushiftRight, thresholdG_toNat, Nat.shiftRight_eq_div_pow]
  omega

/-! ## The scan as an order (R145) -/

/-- p comes before q in the serpentine order. -/
def ScanBefore (p q : Nat × Nat) : Prop :=
  p.2 < q.2 ∨ p.2 = q.2 ∧ if p.2 % 2 = 0 then p.1 < q.1 else q.1 < p.1

theorem ScanBefore.asymm {p q : Nat × Nat} (h : ScanBefore p q) : ¬ ScanBefore q p := by
  unfold ScanBefore at *
  rcases h with h | ⟨hrow, h⟩
  · omega
  · rw [← hrow]
    split_ifs at h ⊢ <;> omega

theorem ScanBefore.irrefl (p : Nat × Nat) : ¬ ScanBefore p p := fun h => h.asymm h

theorem scanRow_pairwise (w y : Nat) : ((scanRow w y).map fun x => (x, y)).Pairwise ScanBefore := by
  rw [List.pairwise_map, scanRow]
  split
  next heven => exact List.pairwise_lt_range.imp fun hlt => .inr ⟨rfl, by rwa [if_pos heven]⟩
  next hodd =>
    rw [List.pairwise_reverse]
    exact List.pairwise_lt_range.imp fun hlt => .inr ⟨rfl, by rwa [if_neg hodd]⟩

theorem scan_pairwise (w h : Nat) : (scan w h).Pairwise ScanBefore := by
  rw [scan, List.pairwise_flatMap]
  refine ⟨fun y _ => scanRow_pairwise w y, List.pairwise_lt_range.imp fun hlt p hp q hq => .inl ?_⟩
  obtain ⟨x, -, rfl⟩ := List.mem_map.mp hp
  obtain ⟨x', -, rfl⟩ := List.mem_map.mp hq
  exact hlt

theorem scan_nodup (w h : Nat) : (scan w h).Nodup :=
  List.nodup_iff_pairwise_ne.mpr <| (scan_pairwise w h).imp fun {p q} hbefore (hsame : p = q) =>
    ScanBefore.irrefl p (by rwa [← hsame] at hbefore)

theorem scan_succ (w h : Nat) : scan w (h + 1) = scan w h ++ (scanRow w h).map fun x => (x, h) := by
  simp [scan, List.range_succ]

theorem scanRow_length (w y : Nat) : (scanRow w y).length = w := by
  unfold scanRow
  split <;> simp

theorem scan_length (w h : Nat) : (scan w h).length = h * w := by
  induction h with
  | zero => simp [scan]
  | succ h ih => rw [scan_succ, List.length_append, ih, List.length_map, scanRow_length, Nat.succ_mul]

theorem scanRow_getElem? {w x : Nat} (y : Nat) (hx : x < w) :
    (scanRow w y)[if y % 2 = 0 then x else w - 1 - x]? = some x := by
  unfold scanRow
  split
  · exact List.getElem?_range hx
  · rw [List.getElem?_reverse (by simp; omega), List.length_range, List.getElem?_range (by omega)]
    congr 1
    omega

/-- The place of each pixel in the scan. -/
theorem scan_getElem? {w h x y : Nat} (hx : x < w) (hy : y < h) :
    (scan w h)[y * w + (if y % 2 = 0 then x else w - 1 - x)]? = some (x, y) := by
  induction h with
  | zero => omega
  | succ h ih =>
    rw [scan_succ]
    rcases Nat.lt_succ_iff_lt_or_eq.mp hy with hlt | rfl
    · have hcolumn : (if y % 2 = 0 then x else w - 1 - x) < w := by split <;> omega
      rw [List.getElem?_append_left, ih hlt]
      rw [scan_length, Nat.mul_comm h]
      exact index_lt hcolumn le_rfl hlt
    · rw [List.getElem?_append_right (by rw [scan_length]; exact Nat.le_add_right ..), scan_length,
        Nat.add_sub_cancel_left, List.getElem?_map, scanRow_getElem? y hx, Option.map_some]

/-! ## The shares of one error and their targets (R147, R148) -/

/-- The four shares of an error. -/
inductive Share where
  | q7
  | q3
  | q5
  | q1

/-- The share's part of the error e (R147). -/
def Share.amount (e : Int) : Share → Int
  | .q7 => (shares e).1
  | .q3 => (shares e).2.1
  | .q5 => (shares e).2.2.1
  | .q1 => (shares e).2.2.2

/-- The position a share of pixel p is for, inside the raster or not (R148). -/
def Share.target (p : Nat × Nat) : Share → Int × Int
  | .q7 => (p.1 + direction p.2, p.2)
  | .q3 => (p.1 - direction p.2, p.2 + 1)
  | .q5 => (p.1, p.2 + 1)
  | .q1 => (p.1 + direction p.2, p.2 + 1)

/-- The pixel q as a position a share can be for. -/
def position (q : Nat × Nat) : Int × Int := (q.1, q.2)

/-- What the pixel q gets of a share of pixel p, whose error is e. -/
def Share.landing (p q : Nat × Nat) (e : Int) (k : Share) : Int := if k.target p = position q then k.amount e else 0

/-- What the pixel q gets of the error e of pixel p. -/
def diffused (p q : Nat × Nat) (e : Int) : Int :=
  Share.q7.landing p q e + Share.q3.landing p q e + Share.q5.landing p q e + Share.q1.landing p q e

theorem direction_eq (y : Nat) : direction y = if y % 2 = 0 then 1 else -1 := rfl

/-- Every share is for a pixel that is decided later (R148). -/
theorem Share.scanBefore_target {p q : Nat × Nat} {k : Share} (h : k.target p = position q) : ScanBefore p q := by
  obtain ⟨px, py⟩ := p
  obtain ⟨qx, qy⟩ := q
  cases k <;> simp only [Share.target, position, Prod.mk.injEq, direction_eq] at h
  case q7 =>
    refine .inr ⟨by omega, ?_⟩
    split <;> simp_all <;> omega
  all_goals exact .inl (by simp only; omega)

/-- A share of one kind reaches a position from one pixel only. -/
theorem Share.target_injective (k : Share) : Function.Injective fun p => k.target p := by
  rintro ⟨px, py⟩ ⟨qx, qy⟩ h
  have hrow : py = qy := by
    cases k <;> simp only [Share.target, Prod.mk.injEq] at h <;> omega
  subst hrow
  cases k <;> simp only [Share.target, Prod.mk.injEq, and_true] at h ⊢ <;> omega

/-- A pixel gets nothing from one that is not before it. -/
theorem diffused_of_not_scanBefore {p q : Nat × Nat} (h : ¬ ScanBefore p q) (e : Int) : diffused p q e = 0 := by
  have hlanding (k : Share) : k.landing p q e = 0 := if_neg fun ht => h (Share.scanBefore_target ht)
  simp only [diffused, hlanding, add_zero]

theorem diffused_zero (p q : Nat × Nat) : diffused p q 0 = 0 := by
  have hlanding (k : Share) : k.landing p q 0 = 0 := by cases k <;> exact ite_self 0
  simp only [diffused, hlanding, add_zero]

/-! ## One decision's effect on every entry (R146 to R149) -/

theorem index_inj {w a b x y : Nat} (ha : a < w) (hx : x < w) : b * w + a = y * w + x ↔ (a, b) = (x, y) := by
  refine ⟨fun h => ?_, fun h => by obtain ⟨rfl, rfl⟩ := Prod.mk.inj h; rfl⟩
  have hb : b = y := by
    have := congrArg (· / w) h
    simpa [Nat.mul_add_div, Nat.mul_comm _ w, Nat.div_eq_of_lt, ha, hx, Nat.zero_lt_of_lt hx] using this
  subst hb
  rw [Nat.add_left_cancel h]

variable {w h t6 : Nat} {d d' : List Entry} {a b x y : Nat} {e acc : Entry}

theorem getElem?_set_index (hx : x < w) (ha : a < w) (he : d[b * w + a]? = some e) (v : Entry) :
    (d.set (y * w + x) v)[b * w + a]? = some (if (a, b) = (x, y) then v else e) := by
  have hlt := (List.getElem?_eq_some_iff.mp he).1
  rw [List.getElem?_set]
  by_cases hsame : (a, b) = (x, y)
  · have hi := (index_inj ha hx).mpr hsame
    rw [if_pos hsame, if_pos hi.symm, if_pos (hi ▸ hlt)]
  · rw [if_neg hsame, if_neg (mt (fun hi => (index_inj ha hx).mp hi.symm) hsame), he]

theorem ofInt_toInt_add (e : Entry) (q : Int) :
    BitVec.ofInt 16 (e.toInt + q) = e + BitVec.ofInt 16 q := by
  rw [BitVec.ofInt_add, BitVec.ofInt_toInt]

/-- AddIfInside adds q to the entry of its target and leaves every other entry as it is (R148, R149). -/
theorem addIfInside_entry {tx ty q : Int} (hd : d.length = w * h) (hadd : addIfInside w h tx ty q d = .ok d')
    (ha : a < w) (hb : b < h) (he : d[b * w + a]? = some e) :
    d'[b * w + a]? = some (e + BitVec.ofInt 16 (if (tx, ty) = position (a, b) then q else 0)) := by
  simp only [position, Prod.mk.injEq]
  rcases addIfInside_cases tx ty q hd with ⟨hout, h1⟩ | ⟨⟨hx0, hxw, hy0, hyh⟩, v, hv, h1⟩
  · obtain rfl := Except.ok.inj (h1.symm.trans hadd)
    rw [if_neg (by omega), he]
    simp
  · obtain rfl := Except.ok.inj (h1.symm.trans hadd)
    rw [getElem?_set_index (by omega) ha he, ofInt_toInt_add]
    by_cases hsame : (a, b) = (tx.toNat, ty.toNat)
    · obtain ⟨rfl, rfl⟩ := Prod.mk.inj hsame
      rw [if_pos rfl, if_pos (by omega), Option.some.inj (hv.symm.trans he)]
    · rw [if_neg hsame, if_neg]
      · simp
      · rintro ⟨rfl, rfl⟩
        exact hsame rfl

/-- The decision of an accumulated intensity (R146). -/
def decision (t6 : Nat) (acc : Int) : Entry := BitVec.ofInt 16 (if acc > (t6 : Int) then 1 else 0)

theorem decision_eq_zero_or_one (t6 : Nat) (acc : Int) : decision t6 acc = 0 ∨ decision t6 acc = 1 := by
  unfold decision
  split
  · exact .inr rfl
  · exact .inl rfl

/-- One decision: the pixel's own entry becomes it, and every entry gets its part of the error (R146 to R149). -/
theorem ditherPixel_entry (hd : d.length = w * h) (hx : x < w) (hacc : d[y * w + x]? = some acc)
    (hstep : ditherPixel w h t6 d (x, y) = .ok d') (ha : a < w) (hb : b < h) (he : d[b * w + a]? = some e) :
    d'[b * w + a]? = some ((if (a, b) = (x, y) then decision t6 acc.toInt else e) +
      BitVec.ofInt 16 (diffused (x, y) (a, b) (decisionError t6 acc.toInt))) := by
  rw [ditherPixel_eq hacc] at hstep
  have l0 : (d.set (y * w + x) (decision t6 acc.toInt)).length = w * h := by rwa [List.length_set]
  obtain ⟨d1, h1, l1⟩ := addIfInside_ok (x + direction y) y (shares (decisionError t6 acc.toInt)).1 l0
  obtain ⟨d2, h2, l2⟩ := addIfInside_ok (x - direction y) (y + 1) (shares (decisionError t6 acc.toInt)).2.1 l1
  obtain ⟨d3, h3, l3⟩ := addIfInside_ok x (y + 1) (shares (decisionError t6 acc.toInt)).2.2.1 l2
  have h4 : addIfInside w h (x + direction y) (y + 1) (shares (decisionError t6 acc.toInt)).2.2.2 d3 = .ok d' := by
    simpa only [← decision.eq_1, h1, h2, h3, Except.bind] using hstep
  have e0 := getElem?_set_index (y := y) hx ha he (decision t6 acc.toInt)
  have e4 := addIfInside_entry l3 h4 ha hb (addIfInside_entry l2 h3 ha hb
    (addIfInside_entry l1 h2 ha hb (addIfInside_entry l0 h1 ha hb e0)))
  simp only [diffused, BitVec.ofInt_add, ← BitVec.add_assoc]
  exact e4

end Sys2Proof.Machine
end

section
/-! SUPPORT. A run of the scan, decision after decision: decisions stay, entries stay in range, and a saturated raster
diffuses nothing (R144, R149 to R152). -/

namespace Sys2Proof.Machine

variable {w h t6 x y : Nat} {d0 d d' : List Entry} {acc : Entry} {done todo : List (Nat × Nat)} {p q : Nat × Nat}
  {s t : State}

/-! ## A run of the scan (R149) -/

/-- In a run of the scan, the pixel that is decided next comes after all decided ones. -/
theorem scanBefore_next (hscan : scan w h = done ++ p :: todo) (hq : q ∈ done) : ScanBefore q p :=
  (List.pairwise_append.mp (hscan ▸ scan_pairwise w h)).2.2 q hq p List.mem_cons_self

theorem next_not_mem_done (hscan : scan w h = done ++ p :: todo) : p ∉ done := fun hin =>
  ScanBefore.irrefl p (scanBefore_next hscan hin)

/-- A decided pixel gets nothing more, so no decision is ever changed (R148). -/
theorem diffused_to_decided (hscan : scan w h = done ++ p :: todo) (hq : q ∈ done ++ [p]) (e : Int) :
    diffused p q e = 0 := by
  refine diffused_of_not_scanBefore ?_ e
  rcases List.mem_append.mp hq with hdone | hself
  · exact (scanBefore_next hscan hdone).asymm
  · rw [List.mem_singleton.mp hself]
    exact ScanBefore.irrefl p

/-- What holds of the entries before the scan, and is kept by each decision, holds after any part of the scan. -/
theorem scan_induction {motive : List (Nat × Nat) → List Entry → Prop}
    (hd0 : d0.length = w * h) (hinit : motive [] d0)
    (hkeep : ∀ done x y todo d d' acc, scan w h = done ++ (x, y) :: todo → x < w → y < h → d.length = w * h →
      d[y * w + x]? = some acc → ditherPixel w h t6 d (x, y) = .ok d' → motive done d →
        motive (done ++ [(x, y)]) d')
    (hscan : scan w h = done ++ todo) (hrun : done.foldlM (ditherPixel w h t6) d0 = .ok d) :
    d.length = w * h ∧ motive done d := by
  induction done using List.reverseRecOn generalizing todo d with
  | nil =>
    obtain rfl := Except.ok.inj hrun
    exact ⟨hd0, hinit⟩
  | append_singleton done p ih =>
    obtain ⟨x, y⟩ := p
    have hnext : scan w h = done ++ (x, y) :: todo := by rw [hscan, List.append_assoc, List.singleton_append]
    obtain ⟨hx, hy⟩ := mem_scan.mp (show (x, y) ∈ scan w h by simp [hnext])
    obtain ⟨d1, h1, l1⟩ := foldlM_ditherPixel_ok (t6 := t6) done hd0 fun p hp =>
      mem_scan.mp (hnext ▸ List.mem_append_left _ hp)
    obtain ⟨-, hmotive⟩ := ih hnext h1
    obtain ⟨d2, h2, l2⟩ := ditherPixel_ok (t6 := t6) l1 hx hy
    obtain rfl : d2 = d := Except.ok.inj <| by
      rw [← hrun, List.foldlM_append, h1]
      simp [bind, Except.bind, pure, Except.pure, h2]
    have hlt : y * w + x < d1.length := l1 ▸ index_lt hx le_rfl hy
    exact ⟨l2, hkeep done x y todo d1 d2 d1[y * w + x] hnext hx hy l1 (List.getElem?_eq_getElem hlt) h2 hmotive⟩

theorem foldlM_ditherPixel_length (hd0 : d0.length = w * h) (hscan : scan w h = done ++ todo)
    (hrun : done.foldlM (ditherPixel w h t6) d0 = .ok d) : d.length = w * h :=
  (scan_induction (motive := fun _ _ => True) hd0 trivial (by intros; trivial) hscan hrun).1

/-- Every pixel of the list has its decision in DBUF, 0 or 1. -/
def Decided (w : Nat) (done : List (Nat × Nat)) (d : List Entry) : Prop :=
  ∀ x y e, (x, y) ∈ done → d[y * w + x]? = some e → e = 0 ∨ e = 1

/-- The next pixel gets its decision, and the decided ones keep theirs. -/
theorem ditherPixel_decided (hscan : scan w h = done ++ (x, y) :: todo) (hd : d.length = w * h)
    (hacc : d[y * w + x]? = some acc) (hstep : ditherPixel w h t6 d (x, y) = .ok d') (hdone : Decided w done d) :
    Decided w (done ++ [(x, y)]) d' := by
  intro a b e' hab he'
  obtain ⟨hx, -⟩ := mem_scan.mp (show (x, y) ∈ scan w h by simp [hscan])
  obtain ⟨ha, hb⟩ := mem_scan.mp (show (a, b) ∈ scan w h by
    rw [hscan, List.append_cons]
    exact List.mem_append_left todo hab)
  have he := List.getElem?_eq_getElem (hd ▸ index_lt ha le_rfl hb : b * w + a < d.length)
  rw [ditherPixel_entry hd hx hacc hstep ha hb he, diffused_to_decided hscan hab] at he'
  obtain rfl := Option.some.inj he'
  simp only [BitVec.ofInt_ofNat, BitVec.add_zero]
  split
  · exact decision_eq_zero_or_one t6 _
  next hother => exact hdone a b _ (by simpa [hother] using hab) he

/-- After any part of the scan the decided pixels hold their decisions (R150). -/
theorem foldlM_ditherPixel_decided (hd0 : d0.length = w * h) (hscan : scan w h = done ++ todo)
    (hrun : done.foldlM (ditherPixel w h t6) d0 = .ok d) : Decided w done d :=
  (scan_induction (motive := Decided w) hd0 (fun _ _ _ hin => absurd hin List.not_mem_nil)
    (fun _ _ _ _ _ _ _ hscan _ _ hd hacc hstep hdone => ditherPixel_decided hscan hd hacc hstep hdone) hscan hrun).2

/-- Each entry of DBUF is the entry of a pixel (R54). -/
theorem exists_pixel_of_mem (hd : d.length = w * h) {e : Entry} (he : e ∈ d) :
    ∃ x y, x < w ∧ y < h ∧ d[y * w + x]? = some e := by
  obtain ⟨i, hi⟩ := List.getElem?_of_mem he
  have hlt : i < w * h := hd ▸ (List.getElem?_eq_some_iff.mp hi).1
  have hw : 0 < w := Nat.pos_of_mul_pos_right (Nat.zero_lt_of_lt hlt)
  exact ⟨i % w, i / w, Nat.mod_lt i hw, Nat.div_lt_of_lt_mul hlt, by rwa [Nat.mul_comm, Nat.div_add_mod]⟩

/-! ## The entries before the scan (R144) -/

/-- Every word of a captured raster's logical pixels can be read (R50, R66). -/
theorem logicalPixels_ok_of_raster (hstride : s.width ≤ s.stride)
    (hraster : s.raster.length = s.stride * s.height) : ∃ pixels, s.logicalPixels = .ok pixels := by
  obtain ⟨pixels, hpixels, -⟩ := collect_of_forall_ok
    (xs := (rowMajor s.width s.height).map fun pos => s.readPixel pos.1 pos.2) <| by
      simp only [List.mem_map]
      rintro x ⟨pos, hpos, rfl⟩
      obtain ⟨hx, hy⟩ := mem_rowMajor.mp hpos
      exact ⟨_, readElement_of_lt .raster (hraster ▸ index_lt hx hstride hy)⟩
  exact ⟨pixels, hpixels⟩

theorem sameLogicalPixels.width_eq (h : sameLogicalPixels s t) : s.width = t.width :=
  congrArg (·.capW.toNat) h.1

theorem sameLogicalPixels.height_eq (h : sameLogicalPixels s t) : s.height = t.height :=
  congrArg (·.capH.toNat) h.1

theorem logicalPixels_congr (h : sameLogicalPixels s t) : s.logicalPixels = t.logicalPixels := by
  rw [State.logicalPixels, State.logicalPixels, ← h.width_eq, ← h.height_eq]
  refine congrArg collect (List.map_congr_left fun pos hpos => ?_)
  obtain ⟨hx, hy⟩ := mem_rowMajor.mp hpos
  exact h.2 pos.1 pos.2 hx hy

theorem initialEntries_ok_iff :
    initialEntries s = .ok d ↔ ∃ pixels, s.logicalPixels = .ok pixels ∧
      pixels.map (fun p => BitVec.ofNat 16 (intensity p)) = d := by
  unfold initialEntries
  cases s.logicalPixels <;> simp

theorem initialEntries_length (h : initialEntries s = .ok d) : d.length = s.width * s.height := by
  obtain ⟨pixels, hpixels, rfl⟩ := initialEntries_ok_iff.mp h
  rw [List.length_map, logicalPixels_length hpixels]

theorem toInt_ofNat_of_le {v : Nat} (hv : v ≤ 63) : (BitVec.ofNat 16 v).toInt = v := by
  rw [BitVec.toInt_ofNat', Int.bmod_eq_of_le (by omega) (by omega)]

theorem initialEntries_uniform {pixels : List Pixel} {v : Nat} (hpixels : s.logicalPixels = .ok pixels)
    (hv : ∀ p ∈ pixels, intensity p = v) :
    initialEntries s = .ok (List.replicate (s.width * s.height) (BitVec.ofNat 16 v)) := by
  rw [← logicalPixels_length hpixels, ← List.map_const']
  refine initialEntries_ok_iff.mpr ⟨pixels, hpixels, List.map_congr_left fun p hp => ?_⟩
  rw [hv p hp]

/-- Before the scan every entry is an intensity, in 0..63 (R142, R144). -/
theorem initialEntries_range (h : initialEntries s = .ok d) {e : Entry} (he : e ∈ d) : 0 ≤ e.toInt ∧ e.toInt ≤ 63 := by
  obtain ⟨pixels, -, rfl⟩ := initialEntries_ok_iff.mp h
  obtain ⟨p, -, rfl⟩ := List.mem_map.mp he
  have hle := intensity_le p
  rw [toInt_ofNat_of_le hle]
  omega

/-- The whole of `Dither()` is a run of the whole scan (R149). -/
theorem ditherEntries_eq_foldlM (h : initialEntries s = .ok d0) :
    ditherEntries s = (scan s.width s.height).foldlM (ditherPixel s.width s.height (threshold6 s.thrG)) d0 := by
  rw [ditherEntries, h]

theorem ditherEntries_run (h : initialEntries s = .ok d0) :
    ∃ d, ditherEntries s = .ok d ∧ d.length = s.width * s.height := by
  rw [ditherEntries_eq_foldlM h]
  exact foldlM_ditherPixel_ok _ (initialEntries_length h) fun _ hpos => mem_scan.mp hpos

/-! ## The range of the entries (R151) -/

/-- The ranges of the four shares of an error in −63..63 (R151). -/
theorem shares_range {e : Int} (he : -63 ≤ e ∧ e ≤ 63) :
    (-28 ≤ (shares e).1 ∧ (shares e).1 ≤ 27) ∧ (-12 ≤ (shares e).2.1 ∧ (shares e).2.1 ≤ 11) ∧
      (-20 ≤ (shares e).2.2.1 ∧ (shares e).2.2.1 ≤ 19) ∧ (-3 ≤ (shares e).2.2.2 ∧ (shares e).2.2.2 ≤ 6) := by
  simp only [shares, asr4]
  omega

/-- The least a share of an error in −63..63 can be (R151). -/
def Share.low : Share → Int
  | .q7 => -28
  | .q3 => -12
  | .q5 => -20
  | .q1 => -3

/-- The most a share of an error in −63..63 can be (R151). -/
def Share.high : Share → Int
  | .q7 => 27
  | .q3 => 11
  | .q5 => 19
  | .q1 => 6

theorem Share.amount_range {e : Int} (he : -63 ≤ e ∧ e ≤ 63) (k : Share) :
    k.low ≤ k.amount e ∧ k.amount e ≤ k.high := by
  obtain ⟨h7, h3, h5, h1⟩ := shares_range he
  cases k
  · exact h7
  · exact h3
  · exact h5
  · exact h1

/-- How many shares of kind k the pixel q has got from the decided pixels. -/
def Share.received (done : List (Nat × Nat)) (q : Nat × Nat) (k : Share) : Nat :=
  (done.map fun p => k.target p).count (position q)

theorem Share.received_le_one (hdone : done.Nodup) (q : Nat × Nat) (k : Share) : k.received done q ≤ 1 :=
  List.nodup_iff_count_le_one.mp (hdone.map k.target_injective) _

theorem Share.received_concat (done : List (Nat × Nat)) (p q : Nat × Nat) (k : Share) :
    k.received (done ++ [p]) q = k.received done q + if k.target p = position q then 1 else 0 := by
  simp [Share.received, List.count_append, List.count_singleton]

/-- What lands is within the bounds of its kind, if it lands at all. -/
theorem Share.landing_range {e : Int} (he : -63 ≤ e ∧ e ≤ 63) (p q : Nat × Nat) (done : List (Nat × Nat)) (k : Share) :
    k.low * (k.received (done ++ [p]) q : Int) ≤ k.low * (k.received done q : Int) + k.landing p q e ∧
      k.high * (k.received done q : Int) + k.landing p q e ≤ k.high * (k.received (done ++ [p]) q : Int) := by
  have hamount := k.amount_range he
  rw [Share.received_concat, Share.landing]
  split <;> push_cast <;> constructor <;> linarith

/-- An entry between the least and the most that an intensity and the received shares can add up to. -/
def WithinBudget (done : List (Nat × Nat)) (q : Nat × Nat) (v : Int) : Prop :=
  Share.q7.low * Share.q7.received done q + Share.q3.low * Share.q3.received done q +
      Share.q5.low * Share.q5.received done q + Share.q1.low * Share.q1.received done q ≤ v ∧
    v ≤ 63 + (Share.q7.high * Share.q7.received done q + Share.q3.high * Share.q3.received done q +
      Share.q5.high * Share.q5.received done q + Share.q1.high * Share.q1.received done q)

/-- At most one share of each kind comes in, so that an undecided entry lies in −63..126 (R151). -/
theorem WithinBudget.range {v : Int} (hdone : done.Nodup) (h : WithinBudget done q v) : -63 ≤ v ∧ v ≤ 126 := by
  have hreceived := Share.received_le_one hdone q
  have h7 := hreceived .q7
  have h3 := hreceived .q3
  have h5 := hreceived .q5
  have h1 := hreceived .q1
  simp only [WithinBudget, Share.low, Share.high] at h
  omega

/-- What a pixel diffuses keeps its targets within their budgets. -/
theorem WithinBudget.diffused {v : Int} (h : WithinBudget done q v) {e : Int} (he : -63 ≤ e ∧ e ≤ 63)
    (p : Nat × Nat) : WithinBudget (done ++ [p]) q (v + Machine.diffused p q e) := by
  have hlanding := Share.landing_range he p q done
  have h7 := hlanding .q7
  have h3 := hlanding .q3
  have h5 := hlanding .q5
  have h1 := hlanding .q1
  obtain ⟨hlow, hhigh⟩ := h
  unfold Machine.diffused WithinBudget
  constructor <;> linarith

/-- The error of a decision on an entry in −63..126 (R146, R151). -/
theorem decisionError_range (ht : t6 ≤ 63) {acc : Int} (hacc : -63 ≤ acc ∧ acc ≤ 126) :
    -63 ≤ decisionError t6 acc ∧ decisionError t6 acc ≤ 63 := by
  unfold decisionError
  split <;> omega

/-- A sum within the signed 16-bit range is the sum of the numbers (R54). -/
theorem toInt_add_ofInt {e : Entry} {q : Int} (hlow : -2 ^ 15 ≤ e.toInt + q) (hhigh : e.toInt + q < 2 ^ 15) :
    (e + BitVec.ofInt 16 q).toInt = e.toInt + q := by
  rw [← ofInt_toInt_add, BitVec.toInt_ofInt, Int.bmod_eq_of_le (by omega) (by omega)]

/-- Every entry of an undecided pixel is within its budget. -/
def UndecidedInBudget (w h : Nat) (done : List (Nat × Nat)) (d : List Entry) : Prop :=
  ∀ x y e, x < w → y < h → (x, y) ∉ done → d[y * w + x]? = some e → WithinBudget done (x, y) e.toInt

/-- A decision keeps the entries of the pixels still undecided within their budgets (R151). -/
theorem ditherPixel_inBudget (ht : t6 ≤ 63) (hscan : scan w h = done ++ (x, y) :: todo) (hx : x < w)
    (hy : y < h) (hd : d.length = w * h) (hacc : d[y * w + x]? = some acc)
    (hstep : ditherPixel w h t6 d (x, y) = .ok d') (hbudget : UndecidedInBudget w h done d) :
    UndecidedInBudget w h (done ++ [(x, y)]) d' := by
  intro a b e' ha hb hab he'
  have hnodup : (done ++ [(x, y)]).Nodup := (scan_nodup w h).sublist <| by simp [hscan]
  have hacc_budget := hbudget x y acc hx hy (next_not_mem_done hscan) hacc
  have herror := decisionError_range ht (hacc_budget.range (hnodup.sublist (List.sublist_append_left ..)))
  simp only [List.mem_append, List.mem_singleton, not_or] at hab
  obtain ⟨hdone, hother⟩ := hab
  have hlt : b * w + a < d.length := hd ▸ index_lt ha le_rfl hb
  have he := List.getElem?_eq_getElem hlt
  have hafter := (hbudget a b _ ha hb hdone he).diffused herror (x, y)
  have hrange := hafter.range hnodup
  rw [ditherPixel_entry hd hx hacc hstep ha hb he, if_neg hother] at he'
  rwa [← Option.some.inj he', toInt_add_ofInt (by omega) (by omega)]

/-- After any part of the scan the entries of undecided pixels are within their budgets (R151). -/
theorem foldlM_ditherPixel_inBudget (ht : t6 ≤ 63) (hd0 : d0.length = w * h)
    (hinit : ∀ e ∈ d0, 0 ≤ e.toInt ∧ e.toInt ≤ 63) (hscan : scan w h = done ++ todo)
    (hrun : done.foldlM (ditherPixel w h t6) d0 = .ok d) : UndecidedInBudget w h done d := by
  refine (scan_induction (motive := UndecidedInBudget w h) hd0 ?_ ?_ hscan hrun).2
  · intro x y e _ _ _ he
    simpa [WithinBudget, Share.received] using hinit e (List.mem_of_getElem? he)
  · intro _ _ _ _ _ _ _ hscan hx hy hd hacc hstep hbudget
    exact ditherPixel_inBudget ht hscan hx hy hd hacc hstep hbudget

/-! ## Saturated rasters (R152) -/

/-- Decided pixels hold the decision c, and the others the intensity v. -/
def Saturated (w h : Nat) (v c : Entry) (done : List (Nat × Nat)) (d : List Entry) : Prop :=
  ∀ x y, x < w → y < h → d[y * w + x]? = some (if (x, y) ∈ done then c else v)

/-- A pixel that leaves no error changes its own entry alone. -/
theorem ditherPixel_saturated {v : Entry} (hv : decisionError t6 v.toInt = 0)
    (hscan : scan w h = done ++ (x, y) :: todo) (hx : x < w) (hy : y < h)
    (hd : d.length = w * h) (hstep : ditherPixel w h t6 d (x, y) = .ok d')
    (hsat : Saturated w h v (decision t6 v.toInt) done d) :
    Saturated w h v (decision t6 v.toInt) (done ++ [(x, y)]) d' := by
  intro a b ha hb
  have hacc : d[y * w + x]? = some v := by rw [hsat x y hx hy, if_neg (next_not_mem_done hscan)]
  rw [ditherPixel_entry hd hx hacc hstep ha hb (hsat a b ha hb), hv, diffused_zero]
  by_cases hsame : (a, b) = (x, y) <;> simp [hsame]

/-- A raster of one intensity that leaves no error gets the same decision everywhere (R152). -/
theorem ditherEntries_uniform {pixels : List Pixel} {v : Nat} (hpixels : s.logicalPixels = .ok pixels)
    (hv : ∀ p ∈ pixels, intensity p = v) (hle : v ≤ 63) (herror : decisionError (threshold6 s.thrG) v = 0) :
    ditherEntries s = .ok (List.replicate (s.width * s.height) (decision (threshold6 s.thrG) v)) := by
  have hinit := initialEntries_uniform hpixels hv
  obtain ⟨d, hd, hlen⟩ := ditherEntries_run hinit
  rw [ditherEntries_eq_foldlM hinit] at hd ⊢
  rw [← toInt_ofNat_of_le hle] at herror ⊢
  obtain ⟨-, hsat⟩ := scan_induction (todo := []) (motive := Saturated s.width s.height (BitVec.ofNat 16 v) _)
    List.length_replicate (fun x y hx hy => by simp [index_lt hx le_rfl hy])
    (fun _ _ _ _ _ _ _ hscan hx hy hd _ hstep hsat => ditherPixel_saturated herror hscan hx hy hd hstep hsat)
    (List.append_nil _).symm hd
  refine hd.trans (congrArg _ (List.eq_replicate_iff.mpr ⟨hlen, fun e he => ?_⟩))
  obtain ⟨x, y, hx, hy, he⟩ := exists_pixel_of_mem hlen he
  rw [hsat x y hx hy, if_pos (mem_scan.mpr ⟨hx, hy⟩)] at he
  exact (Option.some.inj he).symm

end Sys2Proof.Machine
end

section
/-! The statements of the family 41_dithering_engine.md, from the lemmas above. -/

namespace Sys2Proof.Machine

/-- Settles O30: a run of the whole scan decides every pixel, and no decision is changed after it is made. -/
theorem ditherDecidesEveryPixel : Obligations.DitherDecidesEveryPixel := by
  intro s hstride hraster
  obtain ⟨pixels, hpixels⟩ := logicalPixels_ok_of_raster hstride hraster
  have hinit := initialEntries_ok_iff.mpr ⟨pixels, hpixels, rfl⟩
  obtain ⟨d, hd, hlen⟩ := ditherEntries_run hinit
  refine ⟨d, by rw [dither, hd]; rfl, hlen, fun e he => ?_⟩
  rw [ditherEntries_eq_foldlM hinit] at hd
  have hdecided := foldlM_ditherPixel_decided (initialEntries_length hinit) (List.append_nil _).symm hd
  obtain ⟨x, y, hx, hy, he⟩ := exists_pixel_of_mem hlen he
  exact hdecided x y e (mem_scan.mpr ⟨hx, hy⟩) he

/-- Settles O32: a decided entry is 0 or 1, and an undecided one is within the budget of the shares it can get, at
most one of each kind. -/
theorem ditherStaysInRange : Obligations.DitherStaysInRange := by
  intro s d0 d done todo ht hinit hscan hrun
  have hd0 := initialEntries_length hinit
  have hbudget := foldlM_ditherPixel_inBudget ht hd0 (fun e he => initialEntries_range hinit he) hscan hrun
  have hdecided := foldlM_ditherPixel_decided hd0 hscan hrun
  have hnodup : done.Nodup := (scan_nodup _ _).sublist (hscan ▸ List.sublist_append_left done todo)
  have hentry : ∀ e ∈ d, -63 ≤ e.toInt ∧ e.toInt ≤ 126 := by
    intro e he
    obtain ⟨x, y, hx, hy, he⟩ := exists_pixel_of_mem (foldlM_ditherPixel_length hd0 hscan hrun) he
    by_cases hdone : (x, y) ∈ done
    · obtain rfl | rfl := hdecided x y e hdone he <;> decide
    · exact (hbudget x y e hx hy hdone he).range hnodup
  refine ⟨hentry, fun x y rest _ acc hacc => ?_⟩
  obtain ⟨e, he, rfl⟩ := readEntry_ok_iff.mp hacc
  exact decisionError_range ht (hentry e (List.mem_of_getElem? he))

/-- Settles O20: twice a 5-bit lane exceeds T6 where the lane exceeds T6 / 2, the threshold of its width. -/
theorem comparatorIsIntensityAboveT6 : Obligations.ComparatorIsIntensityAboveT6 := by
  intro p t
  rw [comparatorOn_iff, threshold6_thresholdG, intensity]
  omega

/-- Settles O29: the scan is ordered by a strict order, so no pixel stands in it twice. -/
theorem scanVisitsEachPixelOnce : Obligations.ScanVisitsEachPixelOnce := fun w h =>
  ⟨scan_nodup w h, fun _ _ => mem_scan, fun _ _ => scan_getElem?, direction_eq⟩

/-- Settles O31: the entries before the scan are read from the logical pixels, and the scan reads nothing else. -/
theorem ditherDependsOnPixelsAndT6 : Obligations.DitherDependsOnPixelsAndT6 := by
  intro s t hsame ht6
  rw [ditherEntries, ditherEntries, initialEntries, initialEntries, logicalPixels_congr hsame, hsame.width_eq,
    hsame.height_eq, ht6]

/-- Settles O33: intensity 0 is decided off and intensity 63 on, both with error 0, so nothing is diffused. -/
theorem saturatedRastersAreNotDithered : Obligations.SaturatedRastersAreNotDithered := by
  intro s pixels hpixels
  refine ⟨fun hoff => ?_, fun hon ht => ?_⟩
  · have hdark : ¬ ((0 : Nat) : Int) > (threshold6 s.thrG : Int) := by omega
    rw [ditherEntries_uniform hpixels hoff (Nat.zero_le 63) (by rw [decisionError, if_neg hdark]; rfl), decision,
      if_neg hdark]
    rfl
  · have hbright : ((63 : Nat) : Int) > (threshold6 s.thrG : Int) := by omega
    rw [ditherEntries_uniform hpixels hon le_rfl (by rw [decisionError, if_pos hbright]; rfl), decision,
      if_pos hbright]
    rfl

/-- Settles O28: the three floors by their definition, the remainder as what is left of the error. -/
theorem sharesAddUpToTheError : Obligations.SharesAddUpToTheError := by
  intro e q7 q3 q5 q1 hshares
  have hrange := fun he : -63 ≤ e ∧ e ≤ 63 => shares_range he
  rw [hshares] at hrange
  simp only [shares, asr4, Prod.mk.injEq] at hshares
  obtain ⟨rfl, rfl, rfl, rfl⟩ := hshares
  exact ⟨by omega, by omega, by omega, by omega, hrange⟩

end Sys2Proof.Machine
end

section
/-! SUPPORT. What the converters answer: the place of each pixel's bytes in a direct payload, the place of each
pixel's bit in a mono payload, and what a converter reads (R174 to R181). -/

namespace Sys2Proof.Machine

variable {s t : State}

/-! ## Lists in equal blocks (R174, R177, R178) -/

/-- Element j of block i, where every block has n elements. -/
theorem getElem?_flatMap_of_length {α β : Type} {f : α → List β} {n : Nat} (hf : ∀ a, (f a).length = n)
    {l : List α} {i j : Nat} {a : α} (hi : l[i]? = some a) (hj : j < n) :
    (l.flatMap f)[i * n + j]? = (f a)[j]? := by
  induction l generalizing i with
  | nil => simp at hi
  | cons b l ih =>
    rw [List.flatMap_cons]
    cases i with
    | zero =>
      obtain rfl : b = a := by simpa using hi
      rw [Nat.zero_mul, Nat.zero_add, List.getElem?_append_left (by rwa [hf])]
    | succ i =>
      rw [Nat.succ_mul, Nat.add_right_comm, List.getElem?_append_right (by rw [hf]; exact Nat.le_add_left ..), hf,
        Nat.add_sub_cancel, ih (by simpa using hi)]

theorem getElem?_map_range {α : Type} {n i : Nat} (f : Nat → α) (hi : i < n) :
    ((List.range n).map f)[i]? = some (f i) := by
  rw [List.getElem?_map, List.getElem?_range hi, Option.map_some]

theorem getElem?_flatMap_range_map {α : Type} {m n i j : Nat} (f : Nat → Nat → α) (hi : i < m) (hj : j < n) :
    ((List.range m).flatMap fun a => (List.range n).map (f a))[i * n + j]? = some (f i j) := by
  rw [getElem?_flatMap_of_length (by simp) (List.getElem?_range hi) hj, getElem?_map_range _ hj]

theorem rowMajor_getElem? {w h x y : Nat} (hx : x < w) (hy : y < h) : (rowMajor w h)[y * w + x]? = some (x, y) :=
  getElem?_flatMap_range_map _ hy hx

/-- Each collected answer is the answer of the access at its place. -/
theorem collect_getElem? {α : Type} {xs : List (Except Fault α)} {as : List α} (h : collect xs = .ok as) {i : Nat}
    {x : Except Fault α} (hx : xs[i]? = some x) : ∃ a, as[i]? = some a ∧ x = .ok a := by
  rw [collect_ok_iff.mp h, List.getElem?_map] at hx
  obtain ⟨a, ha, rfl⟩ := Option.map_eq_some_iff.mp hx
  exact ⟨a, ha, rfl⟩

theorem logicalPixels_getElem? {pixels : List Pixel} (h : s.logicalPixels = .ok pixels) {x y : Nat}
    (hx : x < s.width) (hy : y < s.height) :
    ∃ p, pixels[y * s.width + x]? = some p ∧ s.readPixel x y = .ok p :=
  collect_getElem? h (by rw [List.getElem?_map, rowMajor_getElem? hx hy, Option.map_some])

/-! ## The direct converters (R175, R176) -/

theorem enc24_ok_iff {out : List Byte} :
    enc24 s = .ok out ↔ ∃ pixels, s.logicalPixels = .ok pixels ∧ pixels.flatMap direct24 = out := by
  unfold enc24
  cases s.logicalPixels <;> simp

theorem enc16_ok_iff {out : List Byte} :
    enc16 s = .ok out ↔ ∃ pixels, s.logicalPixels = .ok pixels ∧ pixels.flatMap le16 = out := by
  unfold enc16
  cases s.logicalPixels <;> simp

section PixelBytes

variable {pixels : List Pixel} {bytes : Pixel → List Byte} {n : Nat} (h : s.logicalPixels = .ok pixels)
  (hbytes : ∀ p, (bytes p).length = n)
include h hbytes

theorem length_flatMap_logicalPixels : (pixels.flatMap bytes).length = n * s.width * s.height := by
  have hlength : (pixels.flatMap bytes).length = s.width * s.height * n := by
    simp [List.length_flatMap, hbytes, logicalPixels_length h]
  rw [hlength, Nat.mul_comm, Nat.mul_assoc]

/-- The n bytes of pixel (x, y) stand from byte n·(y·W + x) on (R174). -/
theorem getElem?_flatMap_logicalPixels {x y : Nat} (hx : x < s.width) (hy : y < s.height) :
    ∃ p, s.readPixel x y = .ok p ∧
      ∀ j < n, (pixels.flatMap bytes)[n * (y * s.width + x) + j]? = (bytes p)[j]? := by
  obtain ⟨p, hp, hread⟩ := logicalPixels_getElem? h hx hy
  exact ⟨p, hread, fun j hj => by rw [Nat.mul_comm, getElem?_flatMap_of_length hbytes hp hj]⟩

end PixelBytes

/-- A field moved to the top of a byte loses no bit (R172). -/
theorem toNat_setWidth_shiftLeft {n k : Nat} (v : BitVec n) (hk : n + k = 8) :
    (v.setWidth 8 <<< k).toNat = 2 ^ k * v.toNat := by
  have hlt : v.toNat * 2 ^ k < 2 ^ 8 := by
    rw [← hk, Nat.pow_add]
    exact Nat.mul_lt_mul_of_pos_right v.isLt (Nat.two_pow_pos k)
  have hsmall : v.toNat < 2 ^ 8 := Nat.lt_of_le_of_lt (Nat.le_mul_of_pos_right _ (Nat.two_pow_pos k)) hlt
  rw [BitVec.toNat_shiftLeft, BitVec.toNat_setWidth, Nat.mod_eq_of_lt hsmall, Nat.shiftLeft_eq, Nat.mod_eq_of_lt hlt,
    Nat.mul_comm]

theorem expandHigh_toNat (p : Pixel) : (expandHigh p).toNat = 8 * (fieldHigh p).toNat :=
  toNat_setWidth_shiftLeft (fieldHigh p) rfl

theorem expandMiddle_toNat (p : Pixel) : (expandMiddle p).toNat = 4 * (fieldMiddle p).toNat :=
  toNat_setWidth_shiftLeft (fieldMiddle p) rfl

theorem expandLow_toNat (p : Pixel) : (expandLow p).toNat = 8 * (fieldLow p).toNat :=
  toNat_setWidth_shiftLeft (fieldLow p) rfl

/-- The two bytes of LE16, least significant first, are the word (R11, R53). -/
theorem append_extractLsb'_halves (p : Pixel) : p.extractLsb' 8 8 ++ p.extractLsb' 0 8 = p := by
  refine BitVec.eq_of_toNat_eq ?_
  have := p.isLt
  simp only [toNat_append_eq_add, BitVec.extractLsb'_toNat, Nat.shiftRight_eq_div_pow]
  omega

/-! ## The mono converters (R177, R178) -/

/-- A byte packed from bits has each of them at its place. -/
theorem getLsbD_packBits {bits : List Bool} {i : Nat} (hi : i < 8) :
    (packBits bits).getLsbD i = bits[i]?.getD false := by
  induction bits generalizing i with
  | nil => simp [packBits]
  | cons b bits ih =>
    cases i with
    | zero => simp [packBits]
    | succ i =>
      have hlt := Nat.lt_of_succ_lt hi
      simpa [packBits, hi, hlt] using ih hlt

/-- Bit i of a mono byte is Pix at the i-th position of its group. -/
theorem monoByte_getLsbD {at_ : Nat → Nat × Nat} {b : Byte} (h : monoByte s at_ = .ok b) {i : Nat} (hi : i < 8) :
    s.pixelOn (at_ i).1 (at_ i).2 = .ok (b.getLsbD i) := by
  unfold monoByte at h
  cases hbits : collect ((List.range 8).map fun i => s.pixelOn (at_ i).1 (at_ i).2) with
  | error f => simp [hbits] at h
  | ok bits =>
    obtain rfl : packBits bits = b := by simpa [hbits] using h
    obtain ⟨bit, hbit, hon⟩ := collect_getElem? hbits (getElem?_map_range _ hi)
    rw [hon, getLsbD_packBits hi, hbit, Option.getD_some]

theorem monoByte_congr {at_ : Nat → Nat × Nat}
    (h : ∀ i < 8, s.pixelOn (at_ i).1 (at_ i).2 = t.pixelOn (at_ i).1 (at_ i).2) :
    monoByte s at_ = monoByte t at_ := by
  have hbits : ((List.range 8).map fun i => s.pixelOn (at_ i).1 (at_ i).2) =
      (List.range 8).map fun i => t.pixelOn (at_ i).1 (at_ i).2 :=
    List.map_congr_left fun i hi => h i (List.mem_range.mp hi)
  rw [monoByte, monoByte, hbits]

/-- m lines of n pixels, each line packed into n / 8 bytes; `pos line k` is pixel k of a line. ENCMONO takes the
rows as lines and ENCMONOCOL the columns. -/
def monoLines (s : State) (m n : Nat) (pos : Nat → Nat → Nat × Nat) : Except Fault (List Byte) :=
  collect ((List.range m).flatMap fun line =>
    (List.range (n / 8)).map fun g => monoByte s fun i => pos line (8 * g + i))

theorem encMono_eq_monoLines (s : State) : encMono s = monoLines s s.height s.width fun y x => (x, y) := rfl

theorem encMonoCol_eq_monoLines (s : State) : encMonoCol s = monoLines s s.width s.height fun x y => (x, y) := rfl

section MonoLines

variable {m n : Nat} {pos : Nat → Nat → Nat × Nat} {out : List Byte}

theorem monoLines_length (hn : n % 8 = 0) (h : monoLines s m n pos = .ok out) : out.length = m * n / 8 := by
  rw [Nat.mul_div_assoc m (Nat.dvd_of_mod_eq_zero hn)]
  simpa [List.length_flatMap] using collect_length h

/-- Bit k mod 8 of byte line·(n / 8) + k / 8 is Pix at pixel k of the line. -/
theorem monoLines_bit (hn : n % 8 = 0) (h : monoLines s m n pos = .ok out) {line k : Nat} (hline : line < m)
    (hk : k < n) :
    ∃ b : Byte, out[line * (n / 8) + k / 8]? = some b ∧
      s.pixelOn (pos line k).1 (pos line k).2 = .ok (b.getLsbD (k % 8)) := by
  have hgroup : k / 8 < n / 8 := by omega
  obtain ⟨b, hb, hbyte⟩ := collect_getElem? h (getElem?_flatMap_range_map _ hline hgroup)
  have hbit := monoByte_getLsbD hbyte (Nat.mod_lt k (by decide : 0 < 8))
  rw [Nat.div_add_mod] at hbit
  exact ⟨b, hb, hbit⟩

theorem monoLines_congr
    (h : ∀ line < m, ∀ k < n, s.pixelOn (pos line k).1 (pos line k).2 = t.pixelOn (pos line k).1 (pos line k).2) :
    monoLines s m n pos = monoLines t m n pos := by
  refine congrArg collect (List.flatMap_congr fun line hline => List.map_congr_left fun g hg => ?_)
  rw [List.mem_range] at hline hg
  exact monoByte_congr fun i hi => h line hline (8 * g + i) (by omega)

end MonoLines

/-! ## What a converter reads (R185) -/

/-- Pix reads DBUF where dithering is on, and else the pixel word and the thresholds (R173). -/
theorem pixelOn_congr (hsame : sameLogicalPixels s t) (hmode : s.ditherMode = t.ditherMode) (hr : s.thrR = t.thrR)
    (hg : s.thrG = t.thrG) (hb : s.thrB = t.thrB) (hdbuf : s.dbuf = t.dbuf) {x y : Nat} (hx : x < s.width)
    (hy : y < s.height) : s.pixelOn x y = t.pixelOn x y := by
  have hdithers : s.dithers = t.dithers := by rw [State.dithers, hmode, State.dithers]
  have hdecision : s.readDecision x y = t.readDecision x y := by
    rw [State.readDecision, hdbuf, hsame.width_eq, State.readDecision]
  rw [State.pixelOn, State.pixelOn, hdithers, hdecision, hsame.2 x y hx hy, hr, hg, hb]

theorem enc24_congr (h : sameLogicalPixels s t) : enc24 s = enc24 t := by rw [enc24, enc24, logicalPixels_congr h]

theorem enc16_congr (h : sameLogicalPixels s t) : enc16 s = enc16 t := by rw [enc16, enc16, logicalPixels_congr h]

/-! ## The refusal of EMIT (R181) -/

theorem converterOf_eq_encMono_iff : ∀ f : BitVec 3, converterOf f = some .encMono ↔ f = 4 := by decide

theorem converterOf_eq_encMonoCol_iff : ∀ f : BitVec 3, converterOf f = some .encMonoCol ↔ f = 5 := by decide

/-- EMIT refuses a snapshot exactly where its converter does not accept the geometry. -/
theorem stepEmit_refused_iff :
    stepEmit s = .refused .monoGeometry ↔ ∃ c, converterOf s.pendingFmt = some c ∧ c.accepts s = false := by
  unfold stepEmit
  cases converterOf s.pendingFmt with
  | none => simp
  | some c =>
    simp only [Option.some.injEq, exists_eq_left']
    cases c.accepts s with
    | false => simp
    | true =>
      simp only [if_true, Bool.true_eq_false, iff_false]
      cases prepareSnapshot s with
      | error f => simp
      | ok prepared =>
        dsimp only
        cases c.payload prepared with
        | error f => simp
        | ok payload =>
          dsimp only
          split <;> simp

/-- The two converters with a precondition are the mono ones. -/
theorem exists_not_accepts_iff :
    (∃ c, converterOf s.pendingFmt = some c ∧ c.accepts s = false) ↔
      (s.pendingFmt = 4 ∧ s.width % 8 ≠ 0) ∨ (s.pendingFmt = 5 ∧ s.height % 8 ≠ 0) := by
  rw [← converterOf_eq_encMono_iff, ← converterOf_eq_encMonoCol_iff]
  constructor
  · rintro ⟨c, hc, ha⟩
    cases c with
    | enc24 => cases ha
    | enc16 => cases ha
    | encMono => exact .inl ⟨hc, by simpa [Converter.accepts] using ha⟩
    | encMonoCol => exact .inr ⟨hc, by simpa [Converter.accepts] using ha⟩
  · rintro (⟨hc, hw⟩ | ⟨hc, hh⟩)
    · exact ⟨_, hc, by simpa [Converter.accepts] using hw⟩
    · exact ⟨_, hc, by simpa [Converter.accepts] using hh⟩

end Sys2Proof.Machine
end

section
/-! The statements of the family 42_pixel_encoders.md, from the lemmas above. -/

namespace Sys2Proof.Machine

/-- Settles O21: each lane masked in place is the lane's number, moved to the place of its threshold. -/
theorem comparatorComparesEachLane : Obligations.ComparatorComparesEachLane := comparatorOn_iff

/-- Settles O22: the payload is a triple for each logical pixel, in row-major order. -/
theorem directTwentyFourTriples : Obligations.DirectTwentyFourTriples := by
  intro s out hout
  obtain ⟨pixels, hpixels, rfl⟩ := enc24_ok_iff.mp hout
  have htriple : ∀ p, (direct24 p).length = 3 := fun _ => rfl
  refine ⟨length_flatMap_logicalPixels hpixels htriple, fun x y hx hy => ?_⟩
  obtain ⟨p, hread, hbytes⟩ := getElem?_flatMap_logicalPixels hpixels htriple hx hy
  exact ⟨p, expandHigh p, expandMiddle p, expandLow p, hread, hbytes 0 (by decide), hbytes 1 (by decide),
    hbytes 2 (by decide), expandHigh_toNat p, expandMiddle_toNat p, expandLow_toNat p⟩

/-- Settles O23: the payload is LE16 of each logical pixel, in row-major order. -/
theorem directSixteenIsLossless : Obligations.DirectSixteenIsLossless := by
  intro s out hout
  obtain ⟨pixels, hpixels, rfl⟩ := enc16_ok_iff.mp hout
  refine ⟨length_flatMap_logicalPixels hpixels le16_length, fun x y hx hy => ?_⟩
  obtain ⟨p, hread, hbytes⟩ := getElem?_flatMap_logicalPixels hpixels le16_length hx hy
  refine ⟨p.extractLsb' 0 8, p.extractLsb' 8 8, hbytes 0 (by decide), hbytes 1 (by decide), ?_⟩
  rw [append_extractLsb'_halves]
  exact readElement_ok_iff.mp hread

/-- Settles O24: ENCMONO packs the rows. -/
theorem monoRowMajorBits : Obligations.MonoRowMajorBits := by
  intro s out hw hout
  rw [encMono_eq_monoLines] at hout
  exact ⟨by rw [monoLines_length hw hout, Nat.mul_comm], fun _ _ hx hy => monoLines_bit hw hout hy hx⟩

/-- Settles O25: ENCMONOCOL packs the columns. -/
theorem monoColumnMajorBits : Obligations.MonoColumnMajorBits := by
  intro s out hh hout
  rw [encMonoCol_eq_monoLines] at hout
  exact ⟨monoLines_length hh hout, fun _ _ hx hy => monoLines_bit hh hout hx hy⟩

/-- Settles O26: in both orders the bit of pixel (x, y) is Pix(x, y). -/
theorem monoOrdersAgree : Obligations.MonoOrdersAgree := by
  intro s rows columns hw hh hrows hcolumns x y hx hy
  obtain ⟨b, hb, hrowBit⟩ := (monoRowMajorBits s rows hw hrows).2 x y hx hy
  obtain ⟨c, hc, hcolumnBit⟩ := (monoColumnMajorBits s columns hh hcolumns).2 x y hx hy
  exact ⟨b, c, hb, hc, Except.ok.inj (hrowBit.symm.trans hcolumnBit)⟩

/-- Settles O27: the direct converters read the logical pixels, the mono converters Pix inside the raster. -/
theorem convertersIgnorePaddingAndMore : Obligations.ConvertersIgnorePaddingAndMore := by
  refine ⟨fun c s t hsame hmode hr hg hb hdbuf => ?_, fun s t hsame => ⟨enc24_congr hsame, enc16_congr hsame⟩⟩
  have hpix : ∀ x y, x < s.width → y < s.height → s.pixelOn x y = t.pixelOn x y :=
    fun _ _ hx hy => pixelOn_congr hsame hmode hr hg hb hdbuf hx hy
  cases c with
  | enc24 => exact enc24_congr hsame
  | enc16 => exact enc16_congr hsame
  | encMono =>
    rw [Converter.payload, Converter.payload, encMono_eq_monoLines, encMono_eq_monoLines, ← hsame.width_eq,
      ← hsame.height_eq]
    exact monoLines_congr fun y hy x hx => hpix x y hx hy
  | encMonoCol =>
    rw [Converter.payload, Converter.payload, encMonoCol_eq_monoLines, encMonoCol_eq_monoLines, ← hsame.width_eq,
      ← hsame.height_eq]
    exact monoLines_congr fun x hx y hy => hpix x y hx hy

/-- Settles O45: only the two mono converters have a precondition, and formats 4 and 5 alone select them. -/
theorem monoGeometryIsRefused : Obligations.MonoGeometryIsRefused := by
  intro s hf
  rw [step_of_emit hf, stepEmit_refused_iff, exists_not_accepts_iff]

end Sys2Proof.Machine
end

section
/-! SUPPORT. What the Driver answers in each state of FSM for each choice of the environment (R220 to R231):
the equations of `step`, `stepInit` and `stepAwait`. -/

namespace Sys2Proof.Machine

variable {s : State}

theorem step_of_await (hf : s.fsm = .await) : step s = stepAwait s := by rw [step, hf]

theorem step_of_shutdown (hf : s.fsm = .shutdown) : step s = .fault .halted := by rw [step, hf]

/-- INIT where the provider cannot be initialized (R221). -/
theorem stepInit_error (ha : s.initAnswer = .error) : stepInit s = .next (raiseFatal .fInit (askedProvider s)) := by
  rw [stepInit, ha]
  rfl

theorem legalChunk_iff {c : List Byte} :
    legalChunk c s = true ↔ 1 ≤ c.length ∧ c.length ≤ s.params.inCap - s.ibuf.length := by
  rw [legalChunk, Bool.and_eq_true, decide_eq_true_eq, decide_eq_true_eq, State.ibufLen]

/-! ## AWAIT: one event, or the wait goes on (R222) -/

theorem stepAwait_none (he : s.hostEvent = none) : stepAwait s = .next (takeHostEvent s) := by
  rw [stepAwait, he]

theorem stepAwait_chunk {c : List Byte} (he : s.hostEvent = some (.chunk c)) (hc : legalChunk c s = true) :
    stepAwait s = .next (setFsm .drain (appendChunk c (takeHostEvent s))) := by
  simp only [stepAwait, he, hc, if_true]

theorem stepAwait_eof (he : s.hostEvent = some .eof) :
    stepAwait s = .next (shutDown (discardInput (recordCall .finalize (takeHostEvent s)))) := by
  rw [stepAwait, he]

theorem stepAwait_readError (he : s.hostEvent = some .readError) :
    stepAwait s = .next (raiseFatal .fRd (takeHostEvent s)) := by
  rw [stepAwait, he]

end Sys2Proof.Machine
end

section
/-! The statements of the family 44_driver.md, from the lemmas above. -/

namespace Sys2Proof.Machine

/-- Settles O14: in both cases the parser waits (R246, checks 1 and 4), and the Driver reads PENDING_FMT. -/
theorem parserWaitsForTheRest : Obligations.ParserWaitsForTheRest := by
  intro s hf hincomplete
  rw [step_of_drain hf, stepDrain_of_wait (fetch_wait_iff.mpr hincomplete), endDrain_eq]

/-- Settles O37: the fatal path writes neither OUT nor the geometry. -/
theorem initErrorIsFatal : Obligations.InitErrorIsFatal := fun _ hf ha =>
  ⟨_, (step_of_init hf).trans (stepInit_error ha), rfl, rfl, rfl, rfl⟩

/-- Settles O38: the event meets R222's bounds, and so the longer IBUF is within IN_CAP. -/
theorem chunkIsAppended : Obligations.ChunkIsAppended := by
  intro s c hf he hpos hfits
  have hroom : (s.ibuf ++ c).length ≤ s.params.inCap := by
    rw [List.length_append]
    omega
  have hstep := stepAwait_chunk he (legalChunk_iff.mpr ⟨hpos, hfits⟩)
  exact ⟨_, (step_of_await hf).trans hstep, rfl, rfl, hroom, rfl⟩

/-- Settles O39: the wait takes the environment's choice and writes nothing else. -/
theorem waitingChangesNothing : Obligations.WaitingChangesNothing := fun _ hf he =>
  ⟨_, (step_of_await hf).trans (stepAwait_none he), rfl⟩

/-- Settles O40: finalize is recorded, IBUF emptied, and the run ends. -/
theorem endOfStreamShutsDown : Obligations.EndOfStreamShutsDown := fun _ hf he =>
  ⟨_, (step_of_await hf).trans (stepAwait_eof he), rfl, rfl, rfl, rfl, rfl⟩

/-- Settles O41: the fatal path writes FSM, STATUS and the model's own records alone. -/
theorem readErrorIsFatal : Obligations.ReadErrorIsFatal := fun _ hf he =>
  ⟨_, (step_of_await hf).trans (stepAwait_readError he), rfl, rfl, rfl⟩

/-- Settles O42, by the two terminal states of FSM. -/
theorem terminalStatesAreStuck : Obligations.TerminalStatesAreStuck := by
  rintro s (hf | hf)
  · exact step_of_shutdown hf
  · exact step_of_failed hf

end Sys2Proof.Machine
end
